-- ==== Sys2Proof/Word.lean ====
section
/-! DEFINITION. The word types of the block: a 32-bit transaction word, a byte field, and a `REAL`
(spec/00_scope.md R7: every real value is an IEEE 754 binary32, kept here as its bit pattern). -/

namespace Sys2Proof

/-- One 8-bit field: status, data1, data2, the active note (00_scope R7). -/
abbrev Byte := BitVec 8

/-- One 32-bit word of a transaction, or a 32-bit unsigned number (30_encoding R100, R104). -/
abbrev Word := BitVec 32

/-- A `REAL`: the bit pattern of an IEEE 754 binary32 value (00_scope R7, R9). -/
abbrev Real32 := BitVec 32

end Sys2Proof
end

