-- ==== Sys2Proof/Config.lean ====
section
/-! DEFINITION. What an implementation of the block fixes and the spec leaves open (spec/00_scope.md R7, rows marked
OPEN, and R12). Every constant here has no body: no proof can see its value, so a statement holds for every
implementation. The laws the spec gives these functions are imposed on them in Machine/Functions.lean. -/

namespace Sys2Proof

/-- The four rounding operations of 00_scope R11, as a tag for the NaN they may produce. -/
inductive FloatOp where
  /-- `fadd` -/
  | add
  /-- `fsub` -/
  | sub
  /-- `fmul` -/
  | mul
  /-- `fdiv` -/
  | div
  deriving DecidableEq, Repr

/-- The implementation's sine before the laws of 00_scope R16 (a) to (c) are imposed. Log entry 2. -/
opaque Config.rawSin : Real32 → Real32

/-- The implementation's base-2 exponential before the laws of 00_scope R16 (d), (e) are imposed. Log entry 2. -/
opaque Config.rawExp2 : Real32 → Real32

/-- Free value: the payload and sign of the NaN an operation gives on two operands (00_scope R12: any value).
Log entry 3. -/
opaque Config.rawNaN : FloatOp → Real32 → Real32 → Real32

/-- The implementation's largest frame count before its range is imposed (00_scope R7, OPEN). Log entry 1. -/
opaque Config.rawMaxFrames : Nat

/-- The implementation's largest event count before its range is imposed (00_scope R7, OPEN). Log entry 1. -/
opaque Config.rawMaxEvents : Nat

/-- STATUS_READ_PATH: whether the platform gives the host a read path to `FAULT`, `GUARD_DIAG` and `PREPARED`
(10_state R50, OPEN). Log entry 13. -/
opaque Config.statusReadPath : Bool

/-- SINK_RATE_CONVERSION: how the downstream sink turns the `REAL` sample rate into its integer header field
(20_memory R87, OPEN), before the value at integral rates is imposed (91_not_in_source N14). The sink is outside the
block. Log entry 14. -/
opaque Config.rawSinkRate : Real32 → Word

end Sys2Proof
end

