-- ==== Sys2Proof/Machine/Floats.lean ====
section
/-! DEFINITION. The real operations of spec/00_scope.md R11: IEEE 754 binary32, round to nearest ties to even,
subnormals kept. A pattern is read as an exact integer multiple of 2^-149, the operation is done exactly, and one
rounding narrows the result. The NaN an operation gives is a free value (R12, log entry 3). -/

namespace Sys2Proof.Machine

/-! ### Fields and classes -/

/-- The sign bit. -/
def signBit (x : Real32) : Bool := x.getLsbD 31

/-- The biased exponent field. -/
def expField (x : Real32) : Nat := (x.extractLsb' 23 8).toNat

/-- The fraction field. -/
def fracField (x : Real32) : Nat := (x.extractLsb' 0 23).toNat

/-- `isNaN(a)` (00_scope R11). -/
def isNaN (x : Real32) : Bool := expField x == 255 && fracField x != 0

/-- `isInf(a)` (00_scope R11). -/
def isInf (x : Real32) : Bool := expField x == 255 && fracField x == 0

/-- Neither NaN nor infinite. -/
def isFinite (x : Real32) : Bool := expField x != 255

/-- `fneg(a)` flips the sign bit (00_scope R11). -/
def fneg (x : Real32) : Real32 := x ^^^ 0x80000000#32

/-- `fabs(a)` clears the sign bit (00_scope R11). -/
def fabs (x : Real32) : Real32 := x &&& 0x7FFFFFFF#32

/-! ### Constants (00_scope R7, R8, R12) -/

/-- +0.0 -/
def posZero : Real32 := 0x00000000#32
/-- -0.0 -/
def negZero : Real32 := 0x80000000#32
/-- 0.5, the value of AMP_CEIL -/
def half : Real32 := 0x3F000000#32
/-- 1.0, the value of GUARD_CLAMP_LIMIT -/
def one : Real32 := 0x3F800000#32
/-- -1.0 -/
def negOne : Real32 := 0xBF800000#32
/-- 2.0, the value of GUARD_SILENCE_LIMIT -/
def two : Real32 := 0x40000000#32
/-- 440.0, A4_HZ -/
def a4Hz : Real32 := 0x43DC0000#32
/-- 69.0, the value of A4_NOTE -/
def a4Note : Real32 := 0x428A0000#32
/-- 12.0, the value of SEMITONES -/
def semitones : Real32 := 0x41400000#32
/-- 127.0, the value of VEL_FULL -/
def velFull : Real32 := 0x42FE0000#32
/-- 32767.0, PCM_SCALE (the sink only) -/
def pcmScale : Real32 := 0x46FFFE00#32
/-- `TWO_PI`, the constant 2π -/
def twoPi : Real32 := 0x40C90FDB#32
/-- The canonical NaN (00_scope R12). -/
def canonicalNaN : Real32 := 0x7FC00000#32
/-- An infinity of the given sign. -/
def infinity (neg : Bool) : Real32 := if neg then 0xFF800000#32 else 0x7F800000#32

/-! ### Exact values and rounding -/

/-- The magnitude of a pattern in units of 2^-149. An infinity counts as 2^128, above every finite value. -/
def magnitude (x : Real32) : Nat :=
  if expField x = 0 then fracField x else (2 ^ 23 + fracField x) * 2 ^ (expField x - 1)

/-- The signed value of a pattern in units of 2^-149. -/
def units (x : Real32) : Int := if signBit x then -(magnitude x : Int) else magnitude x

/-- The integer nearest to `n / d`, ties to even. -/
def roundHalfEven (n d : Nat) : Nat :=
  if 2 * (n % d) < d then n / d
  else if d < 2 * (n % d) then n / d + 1
  else n / d + (n / d) % 2

/-- The magnitude bits of the binary32 value nearest to `num / den` units of 2^-149, ties to even. The significand is
rounded at the unit of the value's binade, a subnormal at 1; a carry out of the significand moves the exponent field
up by itself; from 2^128 on the result is infinite. -/
def roundBits (num den : Nat) : Nat :=
  let e := Nat.log2 (num / den) - 23
  min (e * 2 ^ 23 + roundHalfEven num (den * 2 ^ e)) 0x7F800000

/-- The binary32 value nearest to `num / den` units of 2^-149 with the given sign. -/
def roundRatio (neg : Bool) (num den : Nat) : Real32 :=
  BitVec.ofNat 32 (roundBits num den + if neg then 2 ^ 31 else 0)

/-- A NaN: the given pattern if it is one, else the canonical NaN (00_scope R12). -/
def asNaN (x : Real32) : Real32 := if isNaN x then x else canonicalNaN

/-- The NaN an operation gives: any NaN (00_scope R12). Free value, log entry 3. -/
def nanResult (op : FloatOp) (a b : Real32) : Real32 := asNaN (Config.rawNaN op a b)

/-! ### Operations -/

/-- The IEEE sum, `op` naming the operation whose NaN it gives. An exact zero sum is -0 only of two negative zeros. -/
def addAs (op : FloatOp) (a b : Real32) : Real32 :=
  if isNaN a || isNaN b then nanResult op a b
  else if isInf a && isInf b && signBit a != signBit b then nanResult op a b
  else if isInf a then a
  else if isInf b then b
  else
    let k := units a + units b
    if k = 0 then (if signBit a && signBit b then negZero else posZero)
    else roundRatio (decide (k < 0)) k.natAbs 1

/-- `fadd(a, b)` (00_scope R11). -/
def fadd (a b : Real32) : Real32 := addAs .add a b

/-- `fsub(a, b)` (00_scope R11). -/
def fsub (a b : Real32) : Real32 := addAs .sub a (fneg b)

/-- `fmul(a, b)` (00_scope R11). -/
def fmul (a b : Real32) : Real32 :=
  let neg := signBit a != signBit b
  if isNaN a || isNaN b then nanResult .mul a b
  else if isInf a && magnitude b == 0 || magnitude a == 0 && isInf b then nanResult .mul a b
  else if isInf a || isInf b then infinity neg
  else roundRatio neg (magnitude a * magnitude b) (2 ^ 149)

/-- `fdiv(a, b)` (00_scope R11): `fdiv(1, +0) = +inf`, `fdiv(0, 0) = NaN`. -/
def fdiv (a b : Real32) : Real32 :=
  let neg := signBit a != signBit b
  if isNaN a || isNaN b then nanResult .div a b
  else if isInf a && isInf b || magnitude a == 0 && magnitude b == 0 then nanResult .div a b
  else if isInf a || magnitude b == 0 then infinity neg
  else if isInf b then (if neg then negZero else posZero)
  else roundRatio neg (magnitude a * 2 ^ 149) (magnitude b)

/-- `a < b`, false when either side is NaN (00_scope R11). -/
def flt (a b : Real32) : Bool := !isNaN a && !isNaN b && decide (units a < units b)

/-- `a == b`, false when either side is NaN; `+0 == -0` (00_scope R11). -/
def feq (a b : Real32) : Bool := !isNaN a && !isNaN b && decide (units a = units b)

/-- `a <= b`, false when either side is NaN. -/
def fle (a b : Real32) : Bool := !isNaN a && !isNaN b && decide (units a ≤ units b)

/-- `i2f(n)`: an integer of at most 8 bits, exactly (00_scope R11). -/
def i2f (n : Byte) : Real32 := roundRatio false (n.toNat * 2 ^ 149) 1

end Sys2Proof.Machine
end

