-- ==== Sys2Proof/Machine/Functions.lean ====
section
/-! DEFINITION. The configuration functions and parameters with the laws the spec gives them: SIN and EXP2
(spec/00_scope.md R16) and MAX_FRAMES and MAX_EVENTS (R7). Each is made of a constant without a body in Config.lean by
imposing the law where the raw function breaks it, so the model covers every implementation that obeys the laws and no
other. -/

namespace Sys2Proof.Machine

/-- `SIN` (00_scope R16): (a) a zero gives itself, (b) a NaN or an infinity gives a NaN, (c) a finite argument gives a
magnitude of at most 1. Any function with these laws is this one for some raw sine. Log entry 2. -/
def sine (x : Real32) : Real32 :=
  if x = posZero ∨ x = negZero then x
  else if isNaN x || isInf x then asNaN (Config.rawSin x)
  else if fle (fabs (Config.rawSin x)) one then Config.rawSin x
  else posZero

/-- The integer `k` from -126 to 127 whose value is `x`, if there is one. -/
def smallInteger (x : Real32) : Option Int :=
  if isFinite x && units x % 2 ^ 149 == 0 && decide (-126 ≤ units x / 2 ^ 149) && decide (units x / 2 ^ 149 ≤ 127) then
    some (units x / 2 ^ 149)
  else none

/-- `2^k` as a binary32 value, for k from -126 to 127. -/
def powerOfTwo (k : Int) : Real32 := BitVec.ofNat 32 ((k + 127).toNat * 2 ^ 23)

/-- `EXP2` (00_scope R16): (d) +0 gives 1.0, (e) an integer k from -126 to 127 gives 2^k exactly. The pattern -0 is left
to the implementation (log entry 17). Log entry 2. -/
def exp2 (x : Real32) : Real32 :=
  if x = negZero then Config.rawExp2 x
  else
    match smallInteger x with
    | some k => powerOfTwo k
    | none => Config.rawExp2 x

/-- `MAX_FRAMES`, at least 1 and at most 2^32 - 1 (00_scope R7). Log entry 1. -/
def maxFrames : Nat := 1 + Config.rawMaxFrames % (2 ^ 32 - 1)

/-- `MAX_EVENTS`, at most 2^32 - 1 (00_scope R7). Log entry 1. -/
def maxEvents : Nat := Config.rawMaxEvents % 2 ^ 32

end Sys2Proof.Machine
end

