-- ==== Sys2Proof/Syntax.lean ====
section
/-! DEFINITION. The instructions of the block: one constructor per row of spec/opcode_table.json. A command row is a
transaction the host issues (spec/30_encoding.md R101 to R104); an event row is the message of one event record, which
spec/43_scheduler.md R210 calls an "instruction" of the block. Reserved bits (R106: ignored) are no part of an
instruction; message bits a row carries and ignores (the channel nibble, the ignored data bytes) are. -/

namespace Sys2Proof

/-- One record of the event list, the tuple of 20_memory R73: `(sampleOffset, statusByte, data1, data2)`. -/
structure EventRecord where
  /-- `OFS`, the frame the event acts before (30_encoding R105) -/
  ofs : Word
  /-- `ST`, the status byte -/
  st : Byte
  /-- `D1`, the note number of a note message -/
  d1 : Byte
  /-- `D2`, the velocity of a note message -/
  d2 : Byte
  deriving DecidableEq, Repr

/-- `MSG = WB[23:0]`, the message word of an event record (30_encoding R105). -/
def EventRecord.msg (e : EventRecord) : BitVec 24 := e.st ++ e.d1 ++ e.d2

/-- The instructions, one per row of spec/opcode_table.json. -/
inductive Instr where
  /-- PREPARE (46_host R251): `sr` is W1, taken as a binary32 bit pattern -/
  | prepare (sr : Real32)
  /-- CONFIGURE (46_host R252): `e` is W0[8], `atk` is W1, `rel` is W2 -/
  | configure (e : Bool) (atk rel : Real32)
  /-- RENDER_BLOCK (46_host R253): `ch` is W0[9:8], `n` is W1, and the event list that M = W2 counts -/
  | renderBlock (ch : BitVec 2) (n : Word) (evts : List EventRecord)
  /-- RESERVED_CMD_00 (46_host R254): CMD = 0x00 -/
  | reservedCmd00
  /-- RESERVED_CMD_04_07: CMD = 0b000001xx, `low` its low bits -/
  | reservedCmd04To07 (low : BitVec 2)
  /-- RESERVED_CMD_08_0F: CMD = 0b00001xxx -/
  | reservedCmd08To0F (low : BitVec 3)
  /-- RESERVED_CMD_10_1F: CMD = 0b0001xxxx -/
  | reservedCmd10To1F (low : BitVec 4)
  /-- RESERVED_CMD_20_3F: CMD = 0b001xxxxx -/
  | reservedCmd20To3F (low : BitVec 5)
  /-- RESERVED_CMD_40_7F: CMD = 0b01xxxxxx -/
  | reservedCmd40To7F (low : BitVec 6)
  /-- RESERVED_CMD_80_FF: CMD = 0b1xxxxxxx -/
  | reservedCmd80ToFF (low : BitVec 7)
  /-- NOTE_OFF (42_voice R184): `chan` (30_encoding R112) and `vel` (R113) are ignored -/
  | noteOff (chan : BitVec 4) (note vel : Byte)
  /-- NOTE_ON_V0 (42_voice R184): a note-on whose velocity is 0 -/
  | noteOnV0 (chan : BitVec 4) (note : Byte)
  /-- NOTE_ON (42_voice R183): `vel` is 1 to 255 -/
  | noteOn (chan : BitVec 4) (note vel : Byte)
  /-- IGNORED_DATA (30_encoding R114): a status byte with its high bit clear, `low` its other bits -/
  | ignoredData (low : BitVec 7) (d1 d2 : Byte)
  /-- IGNORED_A (30_encoding R110): status nibble 0xA -/
  | ignoredA (low : BitVec 4) (d1 d2 : Byte)
  /-- IGNORED_B (30_encoding R110): status nibble 0xB -/
  | ignoredB (low : BitVec 4) (d1 d2 : Byte)
  /-- IGNORED_C (30_encoding R110): status nibble 0xC -/
  | ignoredC (low : BitVec 4) (d1 d2 : Byte)
  /-- IGNORED_D (30_encoding R110): status nibble 0xD -/
  | ignoredD (low : BitVec 4) (d1 d2 : Byte)
  /-- IGNORED_E (30_encoding R110): status nibble 0xE -/
  | ignoredE (low : BitVec 4) (d1 d2 : Byte)
  /-- IGNORED_F (30_encoding R110): status nibble 0xF -/
  | ignoredF (low : BitVec 4) (d1 d2 : Byte)
  deriving DecidableEq, Repr

/-- Whether the instruction is an event message (the EVENT_MSG rows of the opcode table), not a host transaction. -/
def Instr.isEvent : Instr → Bool
  | .prepare _ => false
  | .configure _ _ _ => false
  | .renderBlock _ _ _ => false
  | .reservedCmd00 => false
  | .reservedCmd04To07 _ => false
  | .reservedCmd08To0F _ => false
  | .reservedCmd10To1F _ => false
  | .reservedCmd20To3F _ => false
  | .reservedCmd40To7F _ => false
  | .reservedCmd80ToFF _ => false
  | .noteOff _ _ _ => true
  | .noteOnV0 _ _ => true
  | .noteOn _ _ _ => true
  | .ignoredData _ _ _ => true
  | .ignoredA _ _ _ => true
  | .ignoredB _ _ _ => true
  | .ignoredC _ _ _ => true
  | .ignoredD _ _ _ => true
  | .ignoredE _ _ _ => true
  | .ignoredF _ _ _ => true

/-- The three results of the scheduler's decode (30_encoding R111). -/
inductive EventAction where
  /-- `NoteOff(d1)` -/
  | noteOff (note : Byte)
  /-- `NoteOn(d1, d2)` -/
  | noteOn (note vel : Byte)
  /-- `Ignore` -/
  | ignore
  deriving DecidableEq, Repr

/-- Why a word stream holds no complete transaction yet. Neither is an error of the block: it waits for the rest. -/
inductive DecodeError where
  /-- no word stands at the port -/
  | noWord
  /-- the transaction is `need` words long and only `have_` stand at the port -/
  | incomplete (need have_ : Nat)
  deriving DecidableEq, Repr

end Sys2Proof
end

