-- ==== Sys2Proof/Machine/State.lean ====
section
/-! DEFINITION. The state of the block: the persistent registers of spec/10_state.md R32, the transaction-local state
of R47, the attached output buffer of spec/20_memory.md R71 and the words waiting at the port
(spec/46_host.md R250). State is plain data. -/

namespace Sys2Proof.Machine

/-- The output buffer's bytes, as pairs of an address and a byte in one canonical form: addresses strictly rising, and
no entry equal to what an unlisted address reads as (`unlistedByte`). -/
abbrev Memory := List Host.Cell

/-- What lives only while a RENDER_BLOCK runs (10_state R47), and the operands that transaction latched when it was
accepted (20_memory R74, 10_state R52). -/
structure Render where
  /-- C, the channel count operand (30_encoding R104) -/
  channels : BitVec 2
  /-- N, the frame count operand (30_encoding R104) -/
  frames : Word
  /-- `EVT`, the latched event list (20_memory R73, R74) -/
  events : List EventRecord
  /-- `CURSOR`, the first frame not yet rendered (10_state R47) -/
  cursor : Word
  /-- `EVT_INDEX`, the index of the event being applied (10_state R47) -/
  evtIndex : Word
  /-- `SLICE_CLAMPED`, whether the current slice has flagged a clamp (10_state R47) -/
  sliceClamped : Bool
  deriving DecidableEq, Repr

/-- The state of the block. -/
structure State where
  /-- `SAMPLE_RATE`, Hz (10_state R33) -/
  sampleRate : Real32
  /-- `PHASE`, radians (10_state R34) -/
  phase : Real32
  /-- `INC`, radians per sample (10_state R35) -/
  inc : Real32
  /-- `LEVEL`, the envelope level (10_state R36) -/
  level : Real32
  /-- `SLOPE`, the envelope's change per sample (10_state R37) -/
  slope : Real32
  /-- `ACTIVE`, the active note number, 0 for none (10_state R38) -/
  active : Byte
  /-- `FREQ`, Hz (10_state R39) -/
  freq : Real32
  /-- `PEAK`, the peak amplitude (10_state R40) -/
  peak : Real32
  /-- `ENV_EN`, the envelope enable (10_state R41) -/
  envEn : Bool
  /-- `ATTACK_S`, seconds (10_state R42) -/
  attackS : Real32
  /-- `RELEASE_S`, seconds (10_state R43) -/
  releaseS : Real32
  /-- `PREPARED` (10_state R44) -/
  prepared : Bool
  /-- `FAULT`, the sticky fault record (10_state R45) -/
  fault : BitVec 16
  /-- `GUARD_DIAG`, the guard's diagnostics (10_state R46) -/
  guardDiag : BitVec 32
  /-- the transaction-local state of 10_state R47: absent outside a RENDER_BLOCK (70_reset R300). Log entry 7. -/
  render : Option Render
  /-- `OUT`, the attached output buffer (20_memory R71). Log entries 4 and 5. -/
  out : Memory
  /-- the model's own field: the words the host has issued and the block has not accepted (46_host R250). Log
  entry 6. -/
  port : List Word
  deriving DecidableEq, Repr

/-- Why the block stops. The spec's transaction faults (60_exceptions R272) are no stop: they are next states. -/
inductive Fault where
  /-- Raised by `step` in the middle of a RENDER_BLOCK whose next span would touch a word of `OUT` that does not exist
  (20_memory R71: c < C and f < N). The checks of 46_host R253 rule this out in every run, so only a state that no
  run reaches stops here. Safe. Log entry 15. -/
  | noSuchWord
  deriving DecidableEq, Repr

/-- Why an instruction has no meaning in this model. -/
inductive Refusal where
  /-- Raised by `exec` for an instruction without a meaning, named by its mnemonic; no arm does. Safe. -/
  | notModelled (mnemonic : String)
  deriving DecidableEq, Repr

/-- The causes of a transaction fault (60_exceptions R270). -/
inductive Cause where
  /-- `CMD` reserved -/
  | badCmd
  /-- RENDER_BLOCK while `PREPARED == 0` -/
  | notPrepared
  /-- `CH` not 1 or 2 -/
  | badChannels
  /-- `N > MAX_FRAMES` -/
  | framesRange
  /-- `M > MAX_EVENTS` -/
  | eventsRange
  /-- some event has `OFS >= N` -/
  | evtOffset
  /-- some event's `OFS` is below its predecessor's -/
  | evtOrder
  deriving DecidableEq, Repr

/-- What the block does next: the transaction it accepts, or its next unit of work inside a running RENDER_BLOCK. -/
inductive Fetched where
  /-- no transaction runs and none stands whole at the port: the block waits (70_reset R300) -/
  | wait
  /-- the port's next transaction, and the state with its words consumed (46_host R250) -/
  | command (i : Instr) (s : State)
  /-- the event at `EVT_INDEX`, whose frame the cursor has reached (43_scheduler R211) -/
  | event (i : Instr)
  /-- a span from the cursor up to this frame (43_scheduler R211) -/
  | span (upTo : Word)
  /-- every event is applied and every frame rendered: the transaction ends -/
  | finish
  /-- the next span would touch a word that does not exist -/
  | outside
  deriving DecidableEq, Repr

/-- The block right after power-on reset (70_reset R300). `out` and `port` are the model's: log entries 5 and 6. -/
def State.reset : State where
  sampleRate := 0x00000000#32
  phase := 0x00000000#32
  inc := 0x00000000#32
  level := 0x00000000#32
  slope := 0x00000000#32
  active := 0#8
  freq := 0x00000000#32
  peak := 0x00000000#32
  envEn := true
  attackS := 0x3C23D70A#32
  releaseS := 0x3C23D70A#32
  prepared := false
  fault := 0#16
  guardDiag := 0#32
  render := none
  out := []
  port := []

end Sys2Proof.Machine
end

