-- ==== Sys2Proof/Machine/Flags.lean ====
section
/-! DEFINITION. Every flag the block has (spec/10_state.md R48): the fields of `FAULT` (R45) and how a fault is recorded
in them (spec/60_exceptions.md R270, R272), the fields of `GUARD_DIAG` (R46) and how the guard writes them
(spec/45_guard.md R241). The predicate SILENT stands in Voice.lean. -/

namespace Sys2Proof.Machine

/-! ### `FAULT` -/

/-- The cause codes of 60_exceptions R270. -/
def Cause.code : Cause → Nat
  | .badCmd => 1
  | .notPrepared => 2
  | .badChannels => 3
  | .framesRange => 4
  | .eventsRange => 5
  | .evtOffset => 6
  | .evtOrder => 7

/-- `FAULT.FIRST`, bits [11:8] (10_state R45). -/
def faultFirst (f : BitVec 16) : BitVec 4 := f.extractLsb' 8 4

/-- Bit k of `FAULT.STICKY`, bits [7:1] (10_state R45). -/
def faultSticky (f : BitVec 16) (k : Nat) : Bool := f.getLsbD k

/-- `FAULT` after a fault of this cause (60_exceptions R272): STICKY bit k is set, and FIRST is written if it was 0. -/
def recordFault (k : Cause) (f : BitVec 16) : BitVec 16 :=
  let sticky := f ||| (1#16 <<< k.code)
  if faultFirst sticky = 0#4 then sticky ||| (BitVec.ofNat 16 k.code <<< 8) else sticky

/-! ### `GUARD_DIAG` -/

/-- `GUARD_DIAG.CLAMP_COUNT`, bits [15:0] (10_state R46). -/
def clampCount (d : BitVec 32) : BitVec 16 := d.extractLsb' 0 16

/-- `GUARD_DIAG.NONFINITE_SEEN`, bit [16] (10_state R46). -/
def nonfiniteSeen (d : BitVec 32) : Bool := d.getLsbD 16

/-- `GUARD_DIAG.OVERRANGE_SEEN`, bit [17] (10_state R46). -/
def overrangeSeen (d : BitVec 32) : Bool := d.getLsbD 17

/-- `x[GUARD_DIAG][16] <- 1` (45_guard R241). -/
def markNonfinite (d : BitVec 32) : BitVec 32 := d ||| 0x00010000#32

/-- `x[GUARD_DIAG][17] <- 1` (45_guard R241). -/
def markOverrange (d : BitVec 32) : BitVec 32 := d ||| 0x00020000#32

/-- `x[GUARD_DIAG][15:0] <- min(x[GUARD_DIAG][15:0] + 1, 0xFFFF)` (45_guard R241). -/
def countClamp (d : BitVec 32) : BitVec 32 :=
  d.extractLsb' 16 16 ++ BitVec.ofNat 16 (min ((clampCount d).toNat + 1) 0xFFFF)

end Sys2Proof.Machine
end

