-- ==== Sys2Proof/Machine/Ops.lean ====
section
/-! DEFINITION. The named operations over registers and memory: `x[NAME] <- v` (spec/00_scope.md R13), `MemRead` and
`MemWrite` (R14, spec/20_memory.md R71, R77), the transaction-local registers of spec/10_state.md R47, and taking a
transaction fault (spec/60_exceptions.md R272). -/

namespace Sys2Proof.Machine

/-! ### Register writes: `x[NAME] <- v` (00_scope R13) -/

/-- `x[SAMPLE_RATE] <- v` -/
def State.setSampleRate (s : State) (v : Real32) : State := { s with sampleRate := v }

/-- `x[PHASE] <- v` -/
def State.setPhase (s : State) (v : Real32) : State := { s with phase := v }

/-- `x[INC] <- v` -/
def State.setInc (s : State) (v : Real32) : State := { s with inc := v }

/-- `x[LEVEL] <- v` -/
def State.setLevel (s : State) (v : Real32) : State := { s with level := v }

/-- `x[SLOPE] <- v` -/
def State.setSlope (s : State) (v : Real32) : State := { s with slope := v }

/-- `x[ACTIVE] <- v` -/
def State.setActive (s : State) (v : Byte) : State := { s with active := v }

/-- `x[FREQ] <- v` -/
def State.setFreq (s : State) (v : Real32) : State := { s with freq := v }

/-- `x[PEAK] <- v` -/
def State.setPeak (s : State) (v : Real32) : State := { s with peak := v }

/-- `x[ENV_EN] <- v` -/
def State.setEnvEn (s : State) (v : Bool) : State := { s with envEn := v }

/-- `x[ATTACK_S] <- v` -/
def State.setAttackS (s : State) (v : Real32) : State := { s with attackS := v }

/-- `x[RELEASE_S] <- v` -/
def State.setReleaseS (s : State) (v : Real32) : State := { s with releaseS := v }

/-- `x[PREPARED] <- v` -/
def State.setPrepared (s : State) (v : Bool) : State := { s with prepared := v }

/-- `x[FAULT] <- v` -/
def State.setFault (s : State) (v : BitVec 16) : State := { s with fault := v }

/-- `x[GUARD_DIAG] <- v` -/
def State.setGuardDiag (s : State) (v : BitVec 32) : State := { s with guardDiag := v }

/-- Write the transaction-local record (10_state R47). -/
def State.setRender (s : State) (v : Option Render) : State := { s with render := v }

/-- Write the output buffer's content. -/
def State.setOut (s : State) (v : Memory) : State := { s with out := v }

/-- Write the words waiting at the port. -/
def State.setPort (s : State) (v : List Word) : State := { s with port := v }

/-! ### Bytes of the output buffer -/

/-- What a byte of `OUT` that no one has written reads as. DESIGN CHOICE, log entry 5. -/
def unlistedByte : Byte := 0#8

/-- The byte at an address. -/
def Memory.readByte : Memory → Nat → Byte
  | [], _ => unlistedByte
  | (x, b) :: m, a => if x = a then b else Memory.readByte m a

/-- Store one byte, keeping the canonical form: writing what an unlisted address reads as removes the entry. -/
def Memory.writeByte : Memory → Nat → Byte → Memory
  | [], a, v => if v = unlistedByte then [] else [(a, v)]
  | (x, b) :: m, a, v =>
    if a < x then (if v = unlistedByte then (x, b) :: m else (a, v) :: (x, b) :: m)
    else if a = x then (if v = unlistedByte then m else (a, v) :: m)
    else (x, b) :: Memory.writeByte m a v

/-- The canonical form: addresses strictly rising, and no entry equal to what an unlisted address reads as. -/
def Memory.wf : Memory → Bool
  | [] => true
  | (x, b) :: m => b != unlistedByte && m.all (fun c => decide (x < c.1)) && Memory.wf m

/-- The four bytes from an address as one word, least significant first (20_memory R75). -/
def Memory.readWord (m : Memory) (a : Nat) : Word :=
  m.readByte (a + 3) ++ m.readByte (a + 2) ++ m.readByte (a + 1) ++ m.readByte a

/-- Store one word as four bytes, least significant first (20_memory R75). -/
def Memory.writeWord (m : Memory) (a : Nat) (v : Word) : Memory :=
  (((m.writeByte a (v.extractLsb' 0 8)).writeByte (a + 1) (v.extractLsb' 8 8)).writeByte (a + 2)
    (v.extractLsb' 16 8)).writeByte (a + 3) (v.extractLsb' 24 8)

/-! ### Words of the output buffer (20_memory R71) -/

/-- The byte address of word `(c, f)`: planar, each channel its own array indexed by frame (20_memory R71), at a
multiple of 4 (R76). The numbers are the model's: log entry 4. -/
def outAddr (c f : Nat) : Nat := 4 * (c * 2 ^ 32 + f)

/-- `MemRead((c,f), 4)` (00_scope R14). -/
def State.memRead (s : State) (c f : Nat) : Real32 := s.out.readWord (outAddr c f)

/-- `MemWrite((c,f), 4, v)` (00_scope R14). -/
def State.memWrite (s : State) (c f : Nat) (v : Real32) : State := s.setOut (s.out.writeWord (outAddr c f) v)

/-! ### Transaction-local registers (10_state R47) -/

/-- A RENDER_BLOCK starts: its operands are latched (20_memory R74) and `CURSOR <- 0` (43_scheduler R211). What
`EVT_INDEX` and `SLICE_CLAMPED` hold before the rules write them is never read: log entry 8. -/
def State.beginRender (s : State) (ch : BitVec 2) (n : Word) (evts : List EventRecord) : State :=
  s.setRender (some ⟨ch, n, evts, 0#32, 0#32, false⟩)

/-- The RENDER_BLOCK ends, and its transaction-local state with it (10_state R47). -/
def State.endRender (s : State) : State := s.setRender none

/-- `x[CURSOR]` while a RENDER_BLOCK runs. -/
def State.cursor (s : State) : Word :=
  match s.render with
  | some r => r.cursor
  | none => 0#32

/-- C while a RENDER_BLOCK runs. -/
def State.channelCount (s : State) : Nat :=
  match s.render with
  | some r => r.channels.toNat
  | none => 0

/-- `x[CURSOR] <- v` while a RENDER_BLOCK runs. -/
def State.setCursor (s : State) (v : Word) : State := s.setRender (s.render.map fun r => { r with cursor := v })

/-- `x[SLICE_CLAMPED] <- v` while a RENDER_BLOCK runs. -/
def State.setSliceClamped (s : State) (v : Bool) : State :=
  s.setRender (s.render.map fun r => { r with sliceClamped := v })

/-- `EVT_INDEX` goes on to the next event of the list. -/
def State.nextEvent (s : State) : State :=
  s.setRender (s.render.map fun r => { r with evtIndex := r.evtIndex + 1#32 })

/-- `EvtRead(i)` (20_memory R73) at `EVT_INDEX`, or nothing when the list is used up. -/
def Render.event (r : Render) : Option EventRecord := r.events[r.evtIndex.toNat]?

/-! ### The port (46_host R250) -/

/-- The host issues the words of transactions: they wait at the port until the block accepts them (46_host R250). -/
def State.issue (s : State) (ws : List Word) : State := s.setPort (s.port ++ ws)

/-! ### Taking a transaction fault -/

/-- `raise Fault(k)` (60_exceptions R272): the cause is recorded in `FAULT` and nothing else changes. -/
def raiseFault (k : Cause) (s : State) : State := s.setFault (recordFault k s.fault)

end Sys2Proof.Machine
end

