-- ==== Sys2Proof/Machine/Envelope.lean ====
section
/-! DEFINITION. The envelope (spec/41_envelope.md): EnvNoteTriggered, EnvNoteReleased, EnvTick, Clamp01. -/

namespace Sys2Proof.Machine

/-- The attack slope, `+1 / (sampleRateHz * attackSeconds)` (41_envelope R161). -/
def attackSlope (sr attack : Real32) : Real32 := fdiv one (fmul sr attack)

/-- The release slope, `-1 / (sampleRateHz * releaseSeconds)` (41_envelope R162). -/
def releaseSlope (sr release : Real32) : Real32 := fdiv negOne (fmul sr release)

/-- EnvNoteTriggered (41_envelope R161): `LEVEL` is not changed. -/
def envNoteTriggered (sr attack : Real32) (s : State) : State := s.setSlope (attackSlope sr attack)

/-- EnvNoteReleased (41_envelope R162): `LEVEL` is not changed. -/
def envNoteReleased (sr release : Real32) (s : State) : State := s.setSlope (releaseSlope sr release)

/-- Clamp01 (41_envelope R164): NaN is returned unchanged. -/
def clamp01 (v : Real32) : Real32 := if flt one v then one else if flt v posZero then posZero else v

/-- EnvTick (41_envelope R163): the level after the clamp, and the state that holds it. -/
def envTick (s : State) : Real32 × State :=
  (clamp01 (fadd s.level s.slope), s.setLevel (clamp01 (fadd s.level s.slope)))

end Sys2Proof.Machine
end

