-- ==== Sys2Proof/Machine/Oscillator.lean ====
section
/-! DEFINITION. The oscillator (spec/40_oscillator.md): OscSetFrequency, OscReset, OscTick. -/

namespace Sys2Proof.Machine

/-- The increment OscSetFrequency computes, `hz * 2π / sampleRateHz` left to right (40_oscillator R141). -/
def oscIncrement (hz sr : Real32) : Real32 := fdiv (fmul hz twoPi) sr

/-- OscSetFrequency (40_oscillator R141): writes `INC`, does not touch `PHASE` (R144). -/
def oscSetFrequency (hz sr : Real32) (s : State) : State := s.setInc (oscIncrement hz sr)

/-- OscReset (40_oscillator R142). -/
def oscReset (s : State) : State := (s.setPhase posZero).setInc posZero

/-- The phase after one tick (40_oscillator R143): at most one subtraction of `TWO_PI`, never a modulo. -/
def oscAdvance (phase inc : Real32) : Real32 :=
  if flt twoPi (fadd phase inc) then fsub (fadd phase inc) twoPi else fadd phase inc

/-- OscTick (40_oscillator R143): the sine of the phase before the advance, and the state with the phase advanced. -/
def oscTick (s : State) : Real32 × State := (sine s.phase, s.setPhase (oscAdvance s.phase s.inc))

end Sys2Proof.Machine
end

