-- ==== Sys2Proof/Machine/Voice.lean ====
section
/-! DEFINITION. The voice controller (spec/42_voice.md): NoteFrequency, NoteAmplitude, VoiceNoteOn, VoiceNoteOff,
IsSilent, RenderOneSample. -/

namespace Sys2Proof.Machine

/-- NoteFrequency (42_voice R181), `440 * 2^((note - 69) / 12)` with real division. -/
def noteFrequency (n : Byte) : Real32 := fmul a4Hz (exp2 (fdiv (fsub (i2f n) a4Note) semitones))

/-- NoteAmplitude (42_voice R182), `(velocity / 127) * 0.5` with real division. -/
def noteAmplitude (v : Byte) : Real32 := fmul (fdiv (i2f v) velFull) half

/-- VoiceNoteOn (42_voice R183): `PHASE` and `LEVEL` are not changed. -/
def voiceNoteOn (n v : Byte) (s : State) : State :=
  let s1 := ((s.setActive n).setPeak (noteAmplitude v)).setFreq (noteFrequency n)
  let s2 := envNoteTriggered s1.sampleRate s1.attackS s1
  oscSetFrequency s2.freq s2.sampleRate s2

/-- VoiceNoteOff (42_voice R184): only a note-off for the active note acts. -/
def voiceNoteOff (n : Byte) (s : State) : State :=
  if n = s.active then envNoteReleased s.sampleRate s.releaseS (s.setActive 0#8) else s

/-- IsSilent (42_voice R185), the predicate SILENT of 10_state R48. -/
def isSilent (s : State) : Bool := s.active == 0#8 && (!s.envEn || feq s.level posZero)

/-- RenderOneSample of a voice that is not silent (42_voice R186): the oscillator ticks, and the envelope only while
`ENV_EN == 1` (41_envelope R165). -/
def renderSounding (s : State) : Real32 × State :=
  let (v, s1) := oscTick s
  let raw := fmul v s1.peak
  if s1.envEn then
    let (l, s2) := envTick s1
    (fmul raw l, s2)
  else (raw, s1)

/-- RenderOneSample (42_voice R186): a silent voice gives +0.0 and no register changes (R187). -/
def renderOneSample (s : State) : Real32 × State := if isSilent s then (posZero, s) else renderSounding s

end Sys2Proof.Machine
end

