-- ==== Sys2Proof/Machine/Events.lean ====
section
/-! DEFINITION. The meanings of the event rows of spec/opcode_table.json: the note messages (spec/42_voice.md R183, R184)
and the classes that are ignored "without error" (spec/43_scheduler.md R210, spec/30_encoding.md R110). -/

namespace Sys2Proof.Machine

/-- NOTE_OFF (42_voice R184): channel and velocity are ignored (30_encoding R112, R113). -/
def execNoteOff (_chan : BitVec 4) (note _vel : Byte) (s : State) : Host.Outcome State Fault Refusal :=
  .next (voiceNoteOff note s)

/-- NOTE_ON_V0 (42_voice R184, 30_encoding R110): a note-on of velocity 0 is a note-off. -/
def execNoteOnV0 (_chan : BitVec 4) (note : Byte) (s : State) : Host.Outcome State Fault Refusal :=
  .next (voiceNoteOff note s)

/-- NOTE_ON (42_voice R183): the channel is ignored (30_encoding R112). -/
def execNoteOn (_chan : BitVec 4) (note vel : Byte) (s : State) : Host.Outcome State Fault Refusal :=
  .next (voiceNoteOn note vel s)

/-- IGNORED_DATA (30_encoding R114): no effect. -/
def execIgnoredData (_low : BitVec 7) (_d1 _d2 : Byte) (s : State) : Host.Outcome State Fault Refusal := .next s

/-- IGNORED_A (30_encoding R110): no effect. -/
def execIgnoredA (_low : BitVec 4) (_d1 _d2 : Byte) (s : State) : Host.Outcome State Fault Refusal := .next s

/-- IGNORED_B (30_encoding R110): no effect. -/
def execIgnoredB (_low : BitVec 4) (_d1 _d2 : Byte) (s : State) : Host.Outcome State Fault Refusal := .next s

/-- IGNORED_C (30_encoding R110): no effect. -/
def execIgnoredC (_low : BitVec 4) (_d1 _d2 : Byte) (s : State) : Host.Outcome State Fault Refusal := .next s

/-- IGNORED_D (30_encoding R110): no effect. -/
def execIgnoredD (_low : BitVec 4) (_d1 _d2 : Byte) (s : State) : Host.Outcome State Fault Refusal := .next s

/-- IGNORED_E (30_encoding R110): no effect. -/
def execIgnoredE (_low : BitVec 4) (_d1 _d2 : Byte) (s : State) : Host.Outcome State Fault Refusal := .next s

/-- IGNORED_F (30_encoding R110): no effect. -/
def execIgnoredF (_low : BitVec 4) (_d1 _d2 : Byte) (s : State) : Host.Outcome State Fault Refusal := .next s

end Sys2Proof.Machine
end

