-- ==== Sys2Proof/Machine/Operands.lean ====
section
/-! DEFINITION. The operand forms of the block (spec/30_encoding.md R107) and the checks a RENDER_BLOCK makes of its
operands before anything changes (spec/46_host.md R253, spec/43_scheduler.md R215, spec/60_exceptions.md R271, R273).
Real operands are bit patterns taken as they are; `N`, `M`, `OFS` and `CH` are unsigned; `D1` and `D2` are full bytes,
not masked to 7 bits. -/

namespace Sys2Proof.Machine

/-- The channel counts that are legal, 1 and 2 (30_encoding R104). -/
def channelsLegal (ch : BitVec 2) : Bool := ch == 1#2 || ch == 2#2

/-- The event-list checks of 43_scheduler R215 for the records after one at offset `prev` (nothing before the first):
per event in list order, the offset test before the order test. The first failing test decides the cause. -/
def checkEvents (n : Word) : Option Word → List EventRecord → Option Cause
  | _, [] => none
  | prev, e :: es =>
    if ¬ e.ofs < n then some .evtOffset
    else if (match prev with | some p => decide (e.ofs < p) | none => false) then some .evtOrder
    else checkEvents n (some e.ofs) es

/-- The checks at the head of RENDER_BLOCK in their order (46_host R253), with `MAX_FRAMES` and `MAX_EVENTS` as
arguments: the first failing check decides the cause (60_exceptions R273); nothing when all pass. -/
def renderCheck (maxF maxE : Nat) (prepared : Bool) (ch : BitVec 2) (n : Word) (evts : List EventRecord) :
    Option Cause :=
  if prepared = false then some .notPrepared
  else if channelsLegal ch = false then some .badChannels
  else if maxF < n.toNat then some .framesRange
  else if maxE < evts.length then some .eventsRange
  else checkEvents n none evts

end Sys2Proof.Machine
end

