-- ==== Sys2Proof/WellFormed.lean ====
section
/-! DEFINITION. Which terms of `Instr` stand for an instruction of the block. Two checks: a NOTE_ON has a velocity of
1 to 255 (spec/30_encoding.md R110), and the event count of a RENDER_BLOCK fits its 32-bit field M (R104). Every other
field admits every value. -/

namespace Sys2Proof

/-- The event list can be counted by the 32-bit `M` of 30_encoding R104. -/
def eventCountFits (evts : List EventRecord) : Bool := decide (evts.length < 2 ^ 32)

/-- The velocity of class NOTE_ON is 1 to 255 (30_encoding R110); 0 is class NOTE_ON_V0. -/
def velocityIsNoteOn (vel : Byte) : Bool := decide (vel ≠ 0#8)

/-- The instruction is one the encoding of spec/30_encoding.md can carry. -/
def Instr.wellFormed : Instr → Bool
  | .prepare _ => true
  | .configure _ _ _ => true
  | .renderBlock _ _ evts => eventCountFits evts
  | .reservedCmd00 => true
  | .reservedCmd04To07 _ => true
  | .reservedCmd08To0F _ => true
  | .reservedCmd10To1F _ => true
  | .reservedCmd20To3F _ => true
  | .reservedCmd40To7F _ => true
  | .reservedCmd80ToFF _ => true
  | .noteOff _ _ _ => true
  | .noteOnV0 _ _ => true
  | .noteOn _ _ vel => velocityIsNoteOn vel
  | .ignoredData _ _ _ => true
  | .ignoredA _ _ _ => true
  | .ignoredB _ _ _ => true
  | .ignoredC _ _ _ => true
  | .ignoredD _ _ _ => true
  | .ignoredE _ _ _ => true
  | .ignoredF _ _ _ => true

end Sys2Proof
end

