-- ==== Sys2Proof/Decode.lean ====
section
/-! DEFINITION. The decoder and, after it, the encoder of spec/30_encoding.md. Commands are read from the port's word
stream (R100 to R104, R108); an event record's message is read by its status nibble (R110). Reserved bits are dropped
(R106, log entry 10). -/

namespace Sys2Proof

/-! ### Event messages -/

/-- The message map of 30_encoding R110: which event row of the opcode table a message word belongs to. -/
def decodeEvent (msg : BitVec 24) : Instr :=
  let low := msg.extractLsb' 16 4
  let d1 := msg.extractLsb' 8 8
  let d2 := msg.extractLsb' 0 8
  if msg.getLsbD 23 = false then .ignoredData (msg.extractLsb' 16 7) d1 d2
  else if msg.extractLsb' 20 4 = 0x8#4 then .noteOff low d1 d2
  else if msg.extractLsb' 20 4 = 0x9#4 then
    if d2 = 0#8 then .noteOnV0 low d1 else .noteOn low d1 d2
  else if msg.extractLsb' 20 4 = 0xA#4 then .ignoredA low d1 d2
  else if msg.extractLsb' 20 4 = 0xB#4 then .ignoredB low d1 d2
  else if msg.extractLsb' 20 4 = 0xC#4 then .ignoredC low d1 d2
  else if msg.extractLsb' 20 4 = 0xD#4 then .ignoredD low d1 d2
  else if msg.extractLsb' 20 4 = 0xE#4 then .ignoredE low d1 d2
  else .ignoredF low d1 d2

/-- `DecodeEvent` of 30_encoding R111, which the scheduler applies: the tests are taken in this order. -/
def decodeAction (msg : BitVec 24) : EventAction :=
  let nib := msg.extractLsb' 20 4
  let d1 := msg.extractLsb' 8 8
  let d2 := msg.extractLsb' 0 8
  if nib = 0x8#4 then .noteOff d1
  else if nib = 0x9#4 ∧ d2 = 0#8 then .noteOff d1
  else if nib = 0x9#4 then .noteOn d1 d2
  else .ignore

/-- One event record from its two words WA and WB (30_encoding R105); WB[31:24] is ignored. -/
def decodeRecord (wa wb : Word) : EventRecord :=
  ⟨wa, wb.extractLsb' 16 8, wb.extractLsb' 8 8, wb.extractLsb' 0 8⟩

/-- The records of a word list, two words each. -/
def decodeRecords : List Word → List EventRecord
  | wa :: wb :: ws => decodeRecord wa wb :: decodeRecords ws
  | [_] => []
  | [] => []

/-! ### Transactions -/

/-- `CMD = W0[7:0]` (30_encoding R100). -/
def commandCode (w0 : Word) : Byte := w0.extractLsb' 0 8

/-- The reserved command codes of 30_encoding R101, by row of the opcode table. -/
def decodeReserved (cmd : Byte) : Instr :=
  if cmd.getLsbD 7 then .reservedCmd80ToFF (cmd.extractLsb' 0 7)
  else if cmd.getLsbD 6 then .reservedCmd40To7F (cmd.extractLsb' 0 6)
  else if cmd.getLsbD 5 then .reservedCmd20To3F (cmd.extractLsb' 0 5)
  else if cmd.getLsbD 4 then .reservedCmd10To1F (cmd.extractLsb' 0 4)
  else if cmd.getLsbD 3 then .reservedCmd08To0F (cmd.extractLsb' 0 3)
  else if cmd.getLsbD 2 then .reservedCmd04To07 (cmd.extractLsb' 0 2)
  else .reservedCmd00

/-- A RENDER_BLOCK whose header is `w0`, from the words after it: N, M and the 2M words of the event records
(30_encoding R104, R108). -/
def decodeRender (w0 : Word) (ws : List Word) : Except DecodeError (Instr × List Word) :=
  match ws with
  | n :: m :: rest =>
    let k := 2 * m.toNat
    if rest.length < k then .error (.incomplete (3 + k) (3 + rest.length))
    else .ok (.renderBlock (w0.extractLsb' 8 2) n (decodeRecords (rest.take k)), rest.drop k)
  | _ => .error (.incomplete 3 (1 + ws.length))

/-- One transaction from the port's words, and the words after it (30_encoding R100 to R104, R108): total on any
words; it names what is missing when the transaction is not complete yet. -/
def decodeTransaction : List Word → Except DecodeError (Instr × List Word)
  | [] => .error .noWord
  | w0 :: ws =>
    if commandCode w0 = 0x01#8 then
      match ws with
      | sr :: rest => .ok (.prepare sr, rest)
      | [] => .error (.incomplete 2 1)
    else if commandCode w0 = 0x02#8 then
      match ws with
      | atk :: rel :: rest => .ok (.configure (w0.getLsbD 8) atk rel, rest)
      | _ => .error (.incomplete 3 (1 + ws.length))
    else if commandCode w0 = 0x03#8 then decodeRender w0 ws
    else .ok (decodeReserved (commandCode w0), ws)

/-! ### Words and bytes -/

/-- A word as four bytes, least significant first (20_memory R75). -/
def bytesOfWord (w : Word) : List Byte :=
  [w.extractLsb' 0 8, w.extractLsb' 8 8, w.extractLsb' 16 8, w.extractLsb' 24 8]

/-- A word stream carried as bytes (20_memory R75). -/
def bytesOfWords (ws : List Word) : List Byte := ws.flatMap bytesOfWord

/-- The words of a byte stream, little-endian (20_memory R75), and the bytes of a word not complete yet. -/
def wordsOfBytes : List Byte → List Word × List Byte
  | b0 :: b1 :: b2 :: b3 :: bs => ((b3 ++ b2 ++ b1 ++ b0) :: (wordsOfBytes bs).1, (wordsOfBytes bs).2)
  | bs => ([], bs)

/-! ### Encoder -/

/-- The two words WA and WB of an event record (30_encoding R105); the reserved byte is 0 (R106). -/
def encodeRecord (e : EventRecord) : List Word := [e.ofs, 0#8 ++ e.msg]

/-- A word whose bits above a command code are 0 (30_encoding R106). -/
def headerWord (cmd : Byte) : Word := cmd.setWidth 32

/-- The word WB of an event message: the reserved byte 0, then the message (30_encoding R105, R106). -/
def messageWord (st d1 d2 : Byte) : Word := 0#8 ++ (st ++ d1 ++ d2)

/-- The words of an instruction: a transaction's words (30_encoding R102 to R104), or the message word WB of an
event (R105). Reserved bits are written 0 (R106). -/
def encode : Instr → List Word
  | .prepare sr => [headerWord 0x01#8, sr]
  | .configure e atk rel => [0#23 ++ BitVec.ofBool e ++ 0x02#8, atk, rel]
  | .renderBlock ch n evts =>
    (0#22 ++ ch ++ 0x03#8) :: n :: BitVec.ofNat 32 evts.length :: evts.flatMap encodeRecord
  | .reservedCmd00 => [headerWord 0x00#8]
  | .reservedCmd04To07 low => [headerWord (0b000001#6 ++ low)]
  | .reservedCmd08To0F low => [headerWord (0b00001#5 ++ low)]
  | .reservedCmd10To1F low => [headerWord (0b0001#4 ++ low)]
  | .reservedCmd20To3F low => [headerWord (0b001#3 ++ low)]
  | .reservedCmd40To7F low => [headerWord (0b01#2 ++ low)]
  | .reservedCmd80ToFF low => [headerWord (0b1#1 ++ low)]
  | .noteOff chan note vel => [messageWord (0x8#4 ++ chan) note vel]
  | .noteOnV0 chan note => [messageWord (0x9#4 ++ chan) note 0#8]
  | .noteOn chan note vel => [messageWord (0x9#4 ++ chan) note vel]
  | .ignoredData low d1 d2 => [messageWord (0#1 ++ low) d1 d2]
  | .ignoredA low d1 d2 => [messageWord (0xA#4 ++ low) d1 d2]
  | .ignoredB low d1 d2 => [messageWord (0xB#4 ++ low) d1 d2]
  | .ignoredC low d1 d2 => [messageWord (0xC#4 ++ low) d1 d2]
  | .ignoredD low d1 d2 => [messageWord (0xD#4 ++ low) d1 d2]
  | .ignoredE low d1 d2 => [messageWord (0xE#4 ++ low) d1 d2]
  | .ignoredF low d1 d2 => [messageWord (0xF#4 ++ low) d1 d2]

/-! ### The opcode table's words -/

/-- The number of words of the transaction that starts with these words (30_encoding R101, R108). -/
def transactionLength (ws : List Word) : Nat :=
  match commandCode (ws.headD 0#32) with
  | 0x01#8 => 2
  | 0x02#8 => 3
  | 0x03#8 => 3 + 2 * (ws.getD 2 0#32).toNat
  | _ => 1

/-- The low `count` words of a number, least significant first. -/
def wordsOfNat : Nat → Nat → List Word
  | 0, _ => []
  | count + 1, w => BitVec.ofNat 32 w :: wordsOfNat count (w / 2 ^ 32)

/-- The command whose bits are `w` as spec/opcode_table.json numbers them: its words, every bit above `nbits` 0. -/
def tableWords (nbits w : Nat) : List Word :=
  let ws := wordsOfNat (max 3 ((nbits + 31) / 32)) (w % 2 ^ nbits)
  (ws ++ List.replicate (transactionLength ws - ws.length) 0#32).take (transactionLength ws)

/-- The event record at offset 0 whose message bits are `w` as spec/opcode_table.json numbers them. -/
def tableRecord (w : Nat) : EventRecord := decodeRecord 0#32 (BitVec.ofNat 32 w)

/-- Whether a row of `nbits` bits is an event message: those rows match the 24 bits `MSG` (30_encoding R105), the
command rows a header word (R100). Log entry 9. -/
def isEventRow (nbits : Nat) : Bool := nbits == 24

/-- What the decoder reads from an instruction whose bits are `w`, numbered as spec/opcode_table.json numbers them. -/
def decodeTableWord (nbits w : Nat) : Option Instr :=
  if isEventRow nbits then some (decodeEvent (tableRecord w).msg)
  else
    match decodeTransaction (tableWords nbits w) with
    | .ok (i, _) => some i
    | .error _ => none

end Sys2Proof
end

