-- ==== Sys2Proof/Machine/Guard.lean ====
section
/-! DEFINITION. The output guard (spec/45_guard.md): GuardSlice and ZeroSlice. A slice is the words
`OUT[c][start .. start+len)` of one channel. -/

namespace Sys2Proof.Machine

/-- ZeroSlice (45_guard R241): +0.0 to `len` words of channel c from frame `k` on. -/
def zeroSlice (c : Nat) : (len k : Nat) → State → State
  | 0, _, s => s
  | len + 1, k, s => zeroSlice c len (k + 1) (s.memWrite c k posZero)

/-- What a sample in (1, 2] becomes: ±1.0, its sign kept (45_guard R244). -/
def clampSample (v : Real32) : Real32 := if flt posZero v then one else negOne

/-- The first clamp of a slice is counted, later ones are not (45_guard R241, R244); `clamped` is `SLICE_CLAMPED`. -/
def flagClamp (clamped : Bool) (s : State) : State := if clamped then s else s.setGuardDiag (countClamp s.guardDiag)

/-- The scan of GuardSlice (45_guard R241) with `todo` words to go from frame `k` on, left to right: the tests in the
order of 60_exceptions R277. `clamped` is `SLICE_CLAMPED` so far; it comes back with the state. -/
def guardScan (c start len : Nat) : (todo k : Nat) → (clamped : Bool) → State → Bool × State
  | 0, _, clamped, s => (clamped, s)
  | todo + 1, k, clamped, s =>
    let v := s.memRead c k
    if isNaN v || isInf v then
      let z := zeroSlice c len start s
      (clamped, z.setGuardDiag (markNonfinite z.guardDiag))
    else if flt two (fabs v) then
      let z := zeroSlice c len start s
      (clamped, z.setGuardDiag (markOverrange z.guardDiag))
    else if flt one (fabs v) then
      guardScan c start len todo (k + 1) true (flagClamp clamped (s.memWrite c k (clampSample v)))
    else guardScan c start len todo (k + 1) clamped s

/-- GuardSlice (45_guard R241): `SLICE_CLAMPED <- 0`, then the scan. -/
def guardSlice (c start len : Nat) (s : State) : State :=
  let (clamped, s1) := guardScan c start len len start false s
  s1.setSliceClamped clamped

end Sys2Proof.Machine
end

