-- ==== Sys2Proof/Machine/Renderer.lean ====
section
/-! DEFINITION. The block renderer (spec/44_renderer.md): RenderSpan, the fan-out of one mono value to every channel. -/

namespace Sys2Proof.Machine

/-- `for c in [0, C): MemWrite((c, f), 4, v)`, the identical value to every channel (44_renderer R231). -/
def writeChannels : (channels : Nat) → (f : Nat) → Real32 → State → State
  | 0, _, _, s => s
  | c + 1, f, v, s => (writeChannels c f v s).memWrite c f v

/-- `len` frames from frame `f` on: RenderOneSample once per frame, written to every channel (44_renderer R231). -/
def renderFrames (channels : Nat) : (len f : Nat) → State → State
  | 0, _, s => s
  | len + 1, f, s =>
    let (v, s1) := renderOneSample s
    renderFrames channels len (f + 1) (writeChannels channels f v s1)

/-- `for c in [0, C): GuardSlice(c, start, len)`, channel 0 first (44_renderer R231). -/
def guardChannels (start len : Nat) : (channels : Nat) → State → State
  | 0, s => s
  | c + 1, s => guardSlice c start len (guardChannels start len c s)

/-- RenderSpan (44_renderer R231): the guard runs only after the whole span is written. -/
def renderSpan (channels start len : Nat) (s : State) : State :=
  guardChannels start len channels (renderFrames channels len start s)

end Sys2Proof.Machine
end

