-- ==== Sys2Proof/Machine/Scheduler.lean ====
section
/-! DEFINITION. The event scheduler (spec/43_scheduler.md): ApplyEvent and ScheduleBlock. -/

namespace Sys2Proof.Machine

/-- ApplyEvent (43_scheduler R210) on the decode of 30_encoding R111; `OFS` is not read here. -/
def applyEvent (e : EventRecord) (s : State) : State :=
  match decodeAction e.msg with
  | .noteOn n v => voiceNoteOn n v s
  | .noteOff n => voiceNoteOff n s
  | .ignore => s

/-- `if t > x[CURSOR]: RenderSpan(C, x[CURSOR], t - x[CURSOR]); x[CURSOR] <- t` (43_scheduler R211). -/
def advanceTo (t : Word) (s : State) : State :=
  if s.cursor < t then
    (renderSpan s.channelCount s.cursor.toNat (t.toNat - s.cursor.toNat) s).setCursor t
  else s

/-- One pass of the loop of ScheduleBlock (43_scheduler R211): the frames before the event, then the event. -/
def scheduleEvent (s : State) (e : EventRecord) : State := (applyEvent e (advanceTo e.ofs s)).nextEvent

/-- The rest of a running ScheduleBlock (43_scheduler R211): these events in list order, the frames after the last one,
and the end of the transaction. -/
def finishBlock (n : Word) (evts : List EventRecord) (s : State) : State :=
  (advanceTo n (evts.foldl scheduleEvent s)).endRender

/-- ScheduleBlock (43_scheduler R211). -/
def scheduleBlock (ch : BitVec 2) (n : Word) (evts : List EventRecord) (s : State) : State :=
  finishBlock n evts (s.beginRender ch n evts)

end Sys2Proof.Machine
end

