-- ==== Sys2Proof/Machine/Transactions.lean ====
section
/-! DEFINITION. The meanings of the host transactions (spec/46_host.md): PREPARE, CONFIGURE, RENDER_BLOCK and the
reserved command codes. A transaction runs to completion in one step (R250). A transaction fault is a next state
(spec/60_exceptions.md R272, log entry 16). -/

namespace Sys2Proof.Machine

/-- PREPARE (46_host R251): `ENV_EN`, `ATTACK_S`, `RELEASE_S` and `FAULT` are unchanged. -/
def execPrepare (sr : Real32) (s : State) : Host.Outcome State Fault Refusal :=
  let s1 := oscReset (s.setSampleRate sr)
  let s2 := ((((s1.setLevel posZero).setSlope posZero).setActive 0#8).setFreq posZero).setPeak posZero
  .next ((s2.setGuardDiag 0#32).setPrepared true)

/-- CONFIGURE (46_host R252): `SLOPE` is not recomputed. -/
def execConfigure (e : Bool) (atk rel : Real32) (s : State) : Host.Outcome State Fault Refusal :=
  .next (((s.setEnvEn e).setAttackS atk).setReleaseS rel)

/-- RENDER_BLOCK (46_host R253): the checks, before any state changes, then ScheduleBlock. -/
def execRenderBlock (ch : BitVec 2) (n : Word) (evts : List EventRecord) (s : State) :
    Host.Outcome State Fault Refusal :=
  match renderCheck maxFrames maxEvents s.prepared ch n evts with
  | some k => .next (raiseFault k s)
  | none => .next (scheduleBlock ch n evts s)

/-- RESERVED_CMD_00 (46_host R254): the fault `BAD_CMD`. -/
def execReservedCmd00 (s : State) : Host.Outcome State Fault Refusal := .next (raiseFault .badCmd s)

/-- RESERVED_CMD_04_07 (46_host R254): the fault `BAD_CMD`. -/
def execReservedCmd04To07 (_low : BitVec 2) (s : State) : Host.Outcome State Fault Refusal :=
  .next (raiseFault .badCmd s)

/-- RESERVED_CMD_08_0F (46_host R254): the fault `BAD_CMD`. -/
def execReservedCmd08To0F (_low : BitVec 3) (s : State) : Host.Outcome State Fault Refusal :=
  .next (raiseFault .badCmd s)

/-- RESERVED_CMD_10_1F (46_host R254): the fault `BAD_CMD`. -/
def execReservedCmd10To1F (_low : BitVec 4) (s : State) : Host.Outcome State Fault Refusal :=
  .next (raiseFault .badCmd s)

/-- RESERVED_CMD_20_3F (46_host R254): the fault `BAD_CMD`. -/
def execReservedCmd20To3F (_low : BitVec 5) (s : State) : Host.Outcome State Fault Refusal :=
  .next (raiseFault .badCmd s)

/-- RESERVED_CMD_40_7F (46_host R254): the fault `BAD_CMD`. -/
def execReservedCmd40To7F (_low : BitVec 6) (s : State) : Host.Outcome State Fault Refusal :=
  .next (raiseFault .badCmd s)

/-- RESERVED_CMD_80_FF (46_host R254): the fault `BAD_CMD`. -/
def execReservedCmd80ToFF (_low : BitVec 7) (s : State) : Host.Outcome State Fault Refusal :=
  .next (raiseFault .badCmd s)

end Sys2Proof.Machine
end

