-- ==== Sys2Proof/Machine/Dispatch.lean ====
section
/-! DEFINITION. One arm per instruction: the call of its meaning. -/

namespace Sys2Proof.Machine

def exec (i : Instr) (s : State) : Host.Outcome State Fault Refusal :=
  match i with
  | .prepare sr => Sys2Proof.Machine.execPrepare sr s
  | .configure e atk rel => Sys2Proof.Machine.execConfigure e atk rel s
  | .renderBlock ch n evts => Sys2Proof.Machine.execRenderBlock ch n evts s
  | .reservedCmd00 => Sys2Proof.Machine.execReservedCmd00 s
  | .reservedCmd04To07 low => Sys2Proof.Machine.execReservedCmd04To07 low s
  | .reservedCmd08To0F low => Sys2Proof.Machine.execReservedCmd08To0F low s
  | .reservedCmd10To1F low => Sys2Proof.Machine.execReservedCmd10To1F low s
  | .reservedCmd20To3F low => Sys2Proof.Machine.execReservedCmd20To3F low s
  | .reservedCmd40To7F low => Sys2Proof.Machine.execReservedCmd40To7F low s
  | .reservedCmd80ToFF low => Sys2Proof.Machine.execReservedCmd80ToFF low s
  | .noteOff chan note vel => Sys2Proof.Machine.execNoteOff chan note vel s
  | .noteOnV0 chan note => Sys2Proof.Machine.execNoteOnV0 chan note s
  | .noteOn chan note vel => Sys2Proof.Machine.execNoteOn chan note vel s
  | .ignoredData low d1 d2 => Sys2Proof.Machine.execIgnoredData low d1 d2 s
  | .ignoredA low d1 d2 => Sys2Proof.Machine.execIgnoredA low d1 d2 s
  | .ignoredB low d1 d2 => Sys2Proof.Machine.execIgnoredB low d1 d2 s
  | .ignoredC low d1 d2 => Sys2Proof.Machine.execIgnoredC low d1 d2 s
  | .ignoredD low d1 d2 => Sys2Proof.Machine.execIgnoredD low d1 d2 s
  | .ignoredE low d1 d2 => Sys2Proof.Machine.execIgnoredE low d1 d2 s
  | .ignoredF low d1 d2 => Sys2Proof.Machine.execIgnoredF low d1 d2 s

end Sys2Proof.Machine
end

