-- ==== Sys2Proof/Machine/Fetch.lean ====
section
/-! DEFINITION. What the block does next. Between transactions it takes the next one from the port
(spec/46_host.md R250); inside a RENDER_BLOCK it goes on with ScheduleBlock (spec/43_scheduler.md R211) and takes nothing
from the port. -/

namespace Sys2Proof.Machine

/-- The port's next transaction: its words are consumed whole, whatever becomes of it (30_encoding R101, R108). While it
is not complete the block waits. -/
def fetchTransaction (s : State) : Fetched :=
  match decodeTransaction s.port with
  | .ok (i, rest) => .command i (s.setPort rest)
  | .error _ => .wait

/-- A span up to frame `upTo` touches only words that exist: c < C with C in 1..2 and f < N (20_memory R71). -/
def spanExists (r : Render) (upTo : Word) : Bool := channelsLegal r.channels && decide (upTo ≤ r.frames)

/-- The span from the cursor up to frame `upTo`. -/
def fetchSpan (r : Render) (upTo : Word) : Fetched := if spanExists r upTo then .span upTo else .outside

/-- The next unit of a running ScheduleBlock (43_scheduler R211): the frames before the event at `EVT_INDEX`, or that
event once the cursor has reached it; after the last event, the frames up to N; then the end. -/
def fetchRender (r : Render) : Fetched :=
  match r.event with
  | some e => if r.cursor < e.ofs then fetchSpan r e.ofs else .event (decodeEvent e.msg)
  | none => if r.cursor < r.frames then fetchSpan r r.frames else .finish

/-- The host issues a byte stream: its whole words, little-endian (20_memory R75). DESIGN CHOICE, log entry 21: the 1 to 3
bytes of a word that the stream leaves incomplete are dropped and join no later bytes; the spec is silent there. -/
def State.issueBytes (s : State) (bs : List Byte) : State := s.issue (wordsOfBytes bs).1

/-- What the block does next. -/
def fetch (s : State) : Fetched :=
  match s.render with
  | none => fetchTransaction s
  | some r => fetchRender r

/-- After an event's own effect the scheduler goes on to the next one. -/
def afterEvent (o : Host.Outcome State Fault Refusal) : Host.Outcome State Fault Refusal :=
  match o with
  | .next s => .next s.nextEvent
  | .fault r => .fault r
  | .refused r => .refused r

/-- No RENDER_BLOCK runs and these words stand first at the port. -/
def State.withCommandWords (s : State) (ws : List Word) : State := (s.setRender none).setPort (ws ++ s.port)

/-- A RENDER_BLOCK of one frame on one channel runs, and its only event is this one, at offset 0 and not applied yet. -/
def State.withEventRecord (s : State) (e : EventRecord) : State := s.beginRender 1#2 1#32 [e]

end Sys2Proof.Machine
end

