-- ==== Sys2Proof/Machine/Step.lean ====
section
/-! DEFINITION. The step: the next transaction, whole (spec/46_host.md R250), or inside a RENDER_BLOCK its next unit of
work (spec/43_scheduler.md R211, log entry 7). -/

namespace Sys2Proof.Machine

/-- One step of the block. -/
def step (s : State) : Host.Outcome State Fault Refusal :=
  match fetch s with
  | .wait => .next s
  | .command i s' => exec i s'
  | .event i => afterEvent (exec i s)
  | .span upTo => .next (advanceTo upTo s)
  | .finish => .next s.endRender
  | .outside => .fault .noSuchWord

/-- `s` with an instruction stored where `step` fetches its next one: a command's words first at the port, an event's
record at `EVT_INDEX` of a running RENDER_BLOCK (log entry 9). -/
def State.withFetchWord (s : State) (nbits w : Nat) : State :=
  if isEventRow nbits then s.withEventRecord (tableRecord w)
  else s.withCommandWords (tableWords nbits w)

end Sys2Proof.Machine
end

