-- ==== Sys2Proof/Machine/Assembler.lean ====
section
/-! DEFINITION. The textual form of transactions (spec/30_encoding.md R117) and the pseudo-events (R118): one line of text
becomes the words the host issues. The step does not use it. Log entry 18. -/

namespace Sys2Proof.Machine

/-! ### Lines and what they stand for -/

/-- `<real>` (30_encoding R117). -/
inductive RealLit where
  /-- a decimal literal: `digits` divided by ten to the power `scale` -/
  | decimal (neg : Bool) (digits scale : Nat)
  /-- `0x<hex32>:f`, an exact bit pattern -/
  | exact (bits : Real32)
  deriving DecidableEq, Repr

/-- The value of a literal: a decimal is rounded to nearest even (30_encoding R117, 00_scope R8). -/
def RealLit.toReal : RealLit → Real32
  | .decimal neg digits scale => roundRatio neg (digits * 2 ^ 149) (10 ^ scale)
  | .exact bits => bits

/-- `<event>` (30_encoding R117) and the pseudo-events (R118). -/
inductive AsmEvent where
  /-- `@ofs st d1 d2` -/
  | raw (ofs : Word) (st d1 d2 : Byte)
  /-- `@ofs on note vel ch=chan` -/
  | on (ofs : Word) (note vel : Byte) (chan : BitVec 4)
  /-- `@ofs off note vel ch=chan` -/
  | off (ofs : Word) (note vel : Byte) (chan : BitVec 4)
  deriving DecidableEq, Repr

/-- The record a (pseudo-)event expands to (30_encoding R118). -/
def AsmEvent.record : AsmEvent → EventRecord
  | .raw ofs st d1 d2 => ⟨ofs, st, d1, d2⟩
  | .on ofs note vel chan => ⟨ofs, 0x9#4 ++ chan, note, vel⟩
  | .off ofs note vel chan => ⟨ofs, 0x8#4 ++ chan, note, vel⟩

/-- One line (30_encoding R117). -/
inductive AsmLine where
  /-- `PREPARE <real>` -/
  | prepare (sr : RealLit)
  /-- `CONFIGURE env=<0|1> attack=<real> release=<real>` -/
  | configure (env : Bool) (attack release : RealLit)
  /-- `RENDER ch=<1|2> n=<uint>` and the events in braces -/
  | render (ch : BitVec 2) (n : Word) (events : List AsmEvent)
  deriving DecidableEq, Repr

/-- The transaction a line stands for. -/
def AsmLine.instr : AsmLine → Instr
  | .prepare sr => .prepare sr.toReal
  | .configure env attack release => .configure env attack.toReal release.toReal
  | .render ch n events => .renderBlock ch n (events.map AsmEvent.record)

/-- The words of a line (30_encoding R119). -/
def AsmLine.words (l : AsmLine) : List Word := encode l.instr

/-! ### Reading the text -/

/-- A token: the characters between spaces. -/
abbrev Token := List Char

/-- Split at every element that satisfies `p`; empty pieces stay. -/
def splitAtEach {α : Type} (p : α → Bool) : List α → List (List α)
  | [] => [[]]
  | a :: as =>
    if p a then [] :: splitAtEach p as
    else
      match splitAtEach p as with
      | [] => [[a]]
      | piece :: pieces => (a :: piece) :: pieces

/-- The tokens of a line. -/
def tokens (line : List Char) : List Token :=
  (splitAtEach (fun c => c = ' ' ∨ c = '\t') line).filter fun t => t ≠ []

/-- The value of a digit below the base. -/
def digitValue (base : Nat) (c : Char) : Option Nat :=
  let v :=
    if '0' ≤ c ∧ c ≤ '9' then c.toNat - '0'.toNat
    else if 'a' ≤ c ∧ c ≤ 'f' then c.toNat - 'a'.toNat + 10
    else if 'A' ≤ c ∧ c ≤ 'F' then c.toNat - 'A'.toNat + 10
    else 99
  if v < base then some v else none

/-- Digits after the value read so far. -/
def readDigits (base : Nat) : Nat → List Char → Option Nat
  | v, [] => some v
  | v, c :: cs => (digitValue base c).bind fun d => readDigits base (v * base + d) cs

/-- A number of one digit or more. -/
def readNumber (base : Nat) (cs : List Char) : Option Nat := if cs = [] then none else readDigits base 0 cs

/-- A decimal number below `2 ^ w`. -/
def readUInt (w : Nat) (cs : List Char) : Option (BitVec w) :=
  (readNumber 10 cs).bind fun v => if v < 2 ^ w then some (BitVec.ofNat w v) else none

/-- `0x` and exactly `digits` hexadecimal digits. -/
def readHex (digits : Nat) (cs : List Char) : Option Nat :=
  match cs with
  | '0' :: 'x' :: ds => if ds.length = digits then readNumber 16 ds else none
  | _ => none

/-- An unsigned decimal literal, with or without a point. -/
def readDecimal (neg : Bool) (cs : List Char) : Option RealLit :=
  match splitAtEach (fun c => c = '.') cs with
  | [whole] => (readNumber 10 whole).map fun v => .decimal neg v 0
  | [whole, frac] => if whole = [] then none else (readNumber 10 (whole ++ frac)).map fun v => .decimal neg v frac.length
  | _ => none

/-- `<real>` (30_encoding R117). -/
def readReal (cs : List Char) : Option RealLit :=
  match splitAtEach (fun c => c = ':') cs with
  | [hex, ['f']] => (readHex 8 hex).map fun v => .exact (BitVec.ofNat 32 v)
  | [['-'] ] => none
  | [num] =>
    match num with
    | '-' :: rest => readDecimal true rest
    | _ => readDecimal false num
  | _ => none

/-- The text after `key=`. -/
def readKey (key : List Char) (t : Token) : Option (List Char) :=
  match splitAtEach (fun c => c = '=') t with
  | [k, v] => if k = key then some v else none
  | _ => none

/-- `@<uint>`. -/
def readOffset (t : Token) : Option Word :=
  match t with
  | '@' :: ds => readUInt 32 ds
  | _ => none

/-- `ch=k` of a pseudo-event (30_encoding R118). -/
def readMidiChannel (t : Token) : Option (BitVec 4) := (readKey ['c', 'h'] t).bind (readUInt 4)

/-- One event (30_encoding R117, R118). -/
def readEvent (ts : List Token) : Option AsmEvent :=
  match ts with
  | [t, op, n] =>
    if op = ['o', 'f', 'f'] then do return .off (← readOffset t) (← readUInt 8 n) 0#8 0#4 else none
  | [t, op, n, v] =>
    if op = ['o', 'n'] then do return .on (← readOffset t) (← readUInt 8 n) (← readUInt 8 v) 0#4
    else if op = ['o', 'f', 'f'] then
      match readMidiChannel v with
      | some ch => do return .off (← readOffset t) (← readUInt 8 n) 0#8 ch
      | none => do return .off (← readOffset t) (← readUInt 8 n) (← readUInt 8 v) 0#4
    else do
      return .raw (← readOffset t) (BitVec.ofNat 8 (← readHex 2 op)) (BitVec.ofNat 8 (← readHex 2 n))
        (BitVec.ofNat 8 (← readHex 2 v))
  | [t, op, n, v, k] =>
    if op = ['o', 'n'] then do
      return .on (← readOffset t) (← readUInt 8 n) (← readUInt 8 v) (← readMidiChannel k)
    else if op = ['o', 'f', 'f'] then do
      return .off (← readOffset t) (← readUInt 8 n) (← readUInt 8 v) (← readMidiChannel k)
    else none
  | _ => none

/-- The opening brace. -/
def openBrace : Token := [Char.ofNat 123]
/-- The closing brace. -/
def closeBrace : Token := [Char.ofNat 125]

/-- `;` starts a comment (30_encoding R117). -/
def startsComment (t : Token) : Bool := t.head? == some ';'

/-- Every element, or nothing when one is missing. -/
def allSome {α : Type} : List (Option α) → Option (List α)
  | [] => some []
  | o :: os => do return (← o) :: (← allSome os)

/-- The events between the braces, and nothing but a comment after them. -/
def readEvents (ts : List Token) : Option (List AsmEvent) :=
  match ts with
  | b :: rest =>
    let inside := rest.takeWhile fun t => t ≠ closeBrace
    let after := rest.drop inside.length
    if b ≠ openBrace ∨ ¬ ((after.drop 1).head?.all startsComment ∧ after ≠ []) then none
    else if inside = [] then some []
    else allSome ((splitAtEach (fun t => t = [';']) inside).map readEvent)
  | [] => none

/-- One line of text (30_encoding R117). -/
def readLine (line : List Char) : Option AsmLine :=
  match tokens line with
  | op :: ts =>
    if op = ['R', 'E', 'N', 'D', 'E', 'R'] then
      match ts with
      | c :: n :: es => do
        return .render (← (readKey ['c', 'h'] c).bind (readUInt 2)) (← (readKey ['n'] n).bind (readUInt 32))
          (← readEvents es)
      | _ => none
    else if op = ['P', 'R', 'E', 'P', 'A', 'R', 'E'] then
      match ts.takeWhile fun t => !startsComment t with
      | [r] => do return .prepare (← readReal r)
      | _ => none
    else if op = ['C', 'O', 'N', 'F', 'I', 'G', 'U', 'R', 'E'] then
      match ts.takeWhile fun t => !startsComment t with
      | [e, a, r] => do
        return .configure ((← (readKey ['e', 'n', 'v'] e).bind (readUInt 1)) = 1#1)
          (← (readKey ['a', 't', 't', 'a', 'c', 'k'] a).bind readReal)
          (← (readKey ['r', 'e', 'l', 'e', 'a', 's', 'e'] r).bind readReal)
      | _ => none
    else none
  | [] => none

/-- The words of one line of text, or nothing when it is no line of 30_encoding R117. -/
def assemble (line : List Char) : Option (List Word) := (readLine line).map AsmLine.words

end Sys2Proof.Machine
end

