-- ==== Sys2Proof/Machine/Sink.lean ====
section
/-! DEFINITION. What stands beside the block and only reads it: the host's read path to the status registers
(spec/10_state.md R50) and the downstream PCM sink (spec/20_memory.md R86 to R90), "a pure mapping from the engine's float
output stream to bytes". The step uses neither. Log entries 13, 14 and 22. -/

namespace Sys2Proof.Machine

/-- What the host reads of `FAULT`, `GUARD_DIAG` and `PREPARED`, on a platform that gives it a path (10_state R50). -/
def hostStatusRead (s : State) : Option (BitVec 16 × BitVec 32 × Bool) :=
  if Config.statusReadPath then some (s.fault, s.guardDiag, s.prepared) else none

/-- The integer nearest to a value given in units of 2^-149, halves away from zero (20_memory R88). -/
def roundHalfAway (u : Int) : Int :=
  if u < 0 then -(((2 * u.natAbs + 2 ^ 149) / 2 ^ 150 : Nat) : Int) else ((2 * u.natAbs + 2 ^ 149) / 2 ^ 150 : Nat)

/-- One output word as a 16-bit sample, `round(x * 32767)` (20_memory R88). -/
def pcmSample (x : Real32) : BitVec 16 := BitVec.ofInt 16 (roundHalfAway (units (fmul x pcmScale)))

/-- A 16-bit field, little-endian. -/
def bytesOfHalf (w : BitVec 16) : List Byte := [w.extractLsb' 0 8, w.extractLsb' 8 8]

/-- The integer from 0 to 2^32 - 1 whose value a rate is, if there is one; the pattern -0 is left out (log entry 14). -/
def integralRate (x : Real32) : Option Word :=
  if isFinite x && !signBit x && magnitude x % 2 ^ 149 == 0 && decide (magnitude x / 2 ^ 149 < 2 ^ 32) then
    some (BitVec.ofNat 32 (magnitude x / 2 ^ 149))
  else none

/-- `SINK_RATE_CONVERSION` (20_memory R87): an integral rate is the rate itself (91_not_in_source N14); what a fractional
or out-of-range rate becomes is left to the implementation. Log entry 14. -/
def sinkRate (x : Real32) : Word := (integralRate x).getD (Config.rawSinkRate x)

/-- Block align, `2 * C` (20_memory R86). -/
def blockAlign (channels : Nat) : Nat := 2 * channels

/-- The 44-byte header (20_memory R86) for `channels` channels, an integer sample rate and a number of sample bytes.
DESIGN CHOICE, log entry 14: a field whose value does not fit its width (a total length, data length or byte rate of
2^32 or more, a channel count or block align of 2^16 or more) keeps the low bits; the spec is silent there. -/
def sinkHeader (channels : Nat) (rate : Word) (dataLength : Nat) : List Byte :=
  [0x52#8, 0x49#8, 0x46#8, 0x46#8] ++ bytesOfWord (BitVec.ofNat 32 (dataLength + 36)) ++
  [0x57#8, 0x41#8, 0x56#8, 0x45#8] ++ [0x66#8, 0x6D#8, 0x74#8, 0x20#8] ++ bytesOfWord 16#32 ++
  bytesOfHalf 1#16 ++ bytesOfHalf (BitVec.ofNat 16 channels) ++ bytesOfWord rate ++
  bytesOfWord (BitVec.ofNat 32 (rate.toNat * blockAlign channels)) ++ bytesOfHalf (BitVec.ofNat 16 (blockAlign channels)) ++
  bytesOfHalf 16#16 ++ [0x64#8, 0x61#8, 0x74#8, 0x61#8] ++ bytesOfWord (BitVec.ofNat 32 dataLength)

/-- The sample bytes of a block of `frames` frames, frame by frame, channel 0 first (20_memory R89). -/
def sinkData (channels frames : Nat) (s : State) : List Byte :=
  (List.range frames).flatMap fun f => (List.range channels).flatMap fun c => bytesOfHalf (pcmSample (s.memRead c f))

/-- The file of one block (20_memory R86 to R89); the sample rate field is `sinkRate` of `SAMPLE_RATE` (R87). DESIGN
CHOICE, log entry 22: a file holds the `OUT` words of exactly one RENDER_BLOCK, as the state holds them, and takes
`SAMPLE_RATE` from that same state; the spec does not say how many blocks of the output stream one file covers. -/
def sinkFile (channels frames : Nat) (s : State) : List Byte :=
  sinkHeader channels (sinkRate s.sampleRate) (2 * channels * frames) ++ sinkData channels frames s

end Sys2Proof.Machine
end

