-- ==== Sys2Proof/Safety.lean ====
section
/-! DEFINITION. What counts as a safe state and a safe run of the block, in the terms the statements use: the legal
values of the registers (spec/10_state.md R45, R46, R49), a running transaction that stays in its buffer
(spec/43_scheduler.md R211, R212, R215), a guarded output word (spec/45_guard.md R245), and the plan of a block (R212,
R217). -/

namespace Sys2Proof.Machine

/-! ### Reserved command codes -/

/-- The command code of a reserved row's instruction (46_host R254); nothing for the other rows. -/
def reservedRowCode : Instr → Option Byte
  | .reservedCmd00 => some 0x00#8
  | .reservedCmd04To07 low => some (0b000001#6 ++ low)
  | .reservedCmd08To0F low => some (0b00001#5 ++ low)
  | .reservedCmd10To1F low => some (0b0001#4 ++ low)
  | .reservedCmd20To3F low => some (0b001#3 ++ low)
  | .reservedCmd40To7F low => some (0b01#2 ++ low)
  | .reservedCmd80ToFF low => some (0b1#1 ++ low)
  | .prepare _ => none
  | .configure _ _ _ => none
  | .renderBlock _ _ _ => none
  | .noteOff _ _ _ => none
  | .noteOnV0 _ _ => none
  | .noteOn _ _ _ => none
  | .ignoredData _ _ _ => none
  | .ignoredA _ _ _ => none
  | .ignoredB _ _ _ => none
  | .ignoredC _ _ _ => none
  | .ignoredD _ _ _ => none
  | .ignoredE _ _ _ => none
  | .ignoredF _ _ _ => none

/-! ### Registers -/

/-- `FAULT == 0`: no fault since power-on (60_exceptions R272). -/
def State.faultFree (s : State) : Bool := s.fault == 0#16

/-- A legal fault record (10_state R45, 60_exceptions R270): reserved bits 0, FIRST at most 7, FIRST is 0 exactly while
no STICKY bit is set, and the STICKY bit of FIRST is set. -/
def faultRecordLegal (f : BitVec 16) : Bool :=
  f &&& 0xF001#16 == 0#16 && decide ((faultFirst f).toNat ≤ 7) &&
    ((faultFirst f == 0#4) == (f &&& 0x00FE#16 == 0#16)) && (faultFirst f == 0#4 || faultSticky f (faultFirst f).toNat)

/-- The reserved bits [31:18] of `GUARD_DIAG` are 0 (10_state R46, R51). -/
def diagLegal (d : BitVec 32) : Bool := d.extractLsb' 18 14 == 0#14

/-- `LEVEL` is NaN or a value in [0, 1] that is not -0 (10_state R49 (a), 41_envelope R164): the patterns of the values
from +0.0 to 1.0 are the numbers from 0 to that of 1.0. -/
def levelLegal (l : Real32) : Bool := isNaN l || decide (l.toNat ≤ one.toNat)

/-- A value in [0, `TWO_PI`] (10_state R49 (b)). -/
def inTurn (x : Real32) : Bool := fle posZero x && fle x twoPi

/-- A value in [0, 1] (41_envelope R166). -/
def inUnit (x : Real32) : Bool := fle posZero x && fle x one

/-! ### The running transaction -/

/-- The event list passes 43_scheduler R215: every offset is below N and no offset is below its predecessor's. -/
def EventsLegal (n : Word) (evts : List EventRecord) : Prop :=
  (∀ e ∈ evts, e.ofs < n) ∧ evts.Pairwise fun a b => a.ofs ≤ b.ofs

/-- Event `i` of the list passes both tests of 43_scheduler R215. -/
def EventPasses (n : Word) (evts : List EventRecord) (i : Nat) : Prop :=
  ∀ e, evts[i]? = some e → e.ofs < n ∧ ∀ p, 0 < i → evts[i - 1]? = some p → ¬ e.ofs < p.ofs

/-- The events not applied yet. -/
def Render.pending (r : Render) : List EventRecord := r.events.drop r.evtIndex.toNat

/-- A running RENDER_BLOCK that the checks of 46_host R253 let through and that has not left its buffer. -/
def RenderLegal (r : Render) : Prop :=
  channelsLegal r.channels = true ∧ r.cursor ≤ r.frames ∧ r.events.length < 2 ^ 32 ∧
    r.evtIndex.toNat ≤ r.events.length ∧ EventsLegal r.frames r.events ∧ ∀ e ∈ r.pending, r.cursor ≤ e.ofs

/-- Every running transaction of the state is legal. -/
def State.RunLegal (s : State) : Prop := ∀ r, s.render = some r → RenderLegal r

/-! ### Arithmetic -/

/-- `r` is the IEEE result for the exact value `num / den` units of 2^-149 (00_scope R11): below half a unit above the
largest finite value it is finite, no finite value is nearer, and of two that are equally near it is the one with an even
significand; from there on it is the infinity of the exact value's sign. -/
def RoundsTo (num : Int) (den : Nat) (r : Real32) : Prop :=
  if num.natAbs < (2 ^ 25 - 1) * 2 ^ 252 * den then
    isFinite r = true ∧ ∀ y, isFinite y = true →
      (units r * den - num).natAbs ≤ (units y * den - num).natAbs ∧
      ((units r * den - num).natAbs = (units y * den - num).natAbs → units r ≠ units y → r.getLsbD 0 = false)
  else r = infinity (decide (num < 0))

/-! ### Output words -/

/-- A finite value of magnitude at most 1.0 (45_guard R245). -/
def sampleSafe (v : Real32) : Bool := isFinite v && fle (fabs v) one

/-- A finite value of magnitude at most 2.0: the guard neither zeroes its slice (45_guard R242, R243) nor stops at it. -/
def inGuardRange (v : Real32) : Bool := isFinite v && fle (fabs v) two

/-- What the guard leaves of a word in that range: ±1.0 for a magnitude above 1.0, the word itself otherwise
(45_guard R244, R247). -/
def guardedSample (v : Real32) : Real32 := if flt one (fabs v) then (if signBit v then negOne else one) else v

/-- Some word of the slice from frame `start` up to frame `stop` has a magnitude above 1.0. -/
def someClamped (s : State) (c start stop : Nat) : Prop :=
  ∃ f, start ≤ f ∧ f < stop ∧ flt one (fabs (s.memRead c f)) = true

/-- `CLAMP_COUNT` after one more slice that flagged a clamp (10_state R46): it saturates at 0xFFFF. -/
def countAfterClamp (d : BitVec 32) : Nat := min ((clampCount d).toNat + 1) 0xFFFF

/-- The state after `j` samples of the voice (42_voice R186). -/
def voiceAfter (j : Nat) (s : State) : State := (fun u => (renderOneSample u).2)^[j] s

/-- The sample `j` frames on: what RenderOneSample returns after `j` samples (42_voice R186, 44_renderer R231). -/
def sampleAt (j : Nat) (s : State) : Real32 := (renderOneSample (voiceAfter j s)).1

/-- Byte address `a` belongs to no word `(c, f)` of a block of `channels` channels and `frames` frames. -/
def outsideBlock (channels frames a : Nat) : Prop :=
  ∀ c f, c < channels → f < frames → a < outAddr c f ∨ outAddr c f + 4 ≤ a

/-- Byte address `a` belongs to no word of the slice `OUT[c][start .. start+len)`. -/
def outsideSlice (c start len a : Nat) : Prop :=
  ∀ f, start ≤ f → f < start + len → a < outAddr c f ∨ outAddr c f + 4 ≤ a

/-! ### The plan of a block -/

/-- One call ScheduleBlock makes: RenderSpan or ApplyEvent (43_scheduler R211). -/
inductive PlanItem where
  /-- RenderSpan over `[start, start + len)` -/
  | span (start len : Nat)
  /-- ApplyEvent -/
  | event (e : EventRecord)
  deriving DecidableEq, Repr

/-- The span up to frame `t`, if it is not empty (43_scheduler R213). -/
def planSpan (cursor t : Nat) : List PlanItem := if cursor < t then [.span cursor (t - cursor)] else []

/-- The calls ScheduleBlock makes from a cursor on (43_scheduler R211). -/
def blockPlan (n : Nat) : (cursor : Nat) → List EventRecord → List PlanItem
  | cursor, [] => planSpan cursor n
  | cursor, e :: es => planSpan cursor e.ofs.toNat ++ .event e :: blockPlan n (max cursor e.ofs.toNat) es

/-- The frames of a plan in the order they are rendered. -/
def planFrames (plan : List PlanItem) : List Nat :=
  plan.flatMap fun
    | .span start len => List.range' start len
    | .event _ => []

/-- The events of a plan in the order they are applied. -/
def planEvents (plan : List PlanItem) : List EventRecord :=
  plan.flatMap fun
    | .span _ _ => []
    | .event e => [e]

/-- The number of RenderSpan calls of a plan. -/
def planSpans (plan : List PlanItem) : Nat :=
  (plan.filter fun
    | .span _ _ => true
    | .event _ => false).length

/-- One call of a plan, run. -/
def runItem (channels : Nat) (s : State) : PlanItem → State
  | .span start len => renderSpan channels start len s
  | .event e => applyEvent e s

end Sys2Proof.Machine
end

