-- ==== Sys2Proof/Certificates/Slice0/Obligations.lean ====
section
/-! DEFINITION. The statements about the block, for the provers. Each docstring names the rule it formalises and its
companion in OBLIGATIONS.json. -/

open Sys2Proof Sys2Proof.Machine

/-! ### Encoding -/

/-- 30_encoding R101 to R105, R108: the words the encoder writes for a transaction decode to it, and the words after it
are left. No field's bit is dropped. -/
def Obligations.DecodeReadsBackEveryTransaction : Prop :=
  ∀ (i : Instr) (rest : List Word), i.wellFormed = true → i.isEvent = false →
    decodeTransaction (encode i ++ rest) = .ok (i, rest)

/-- 30_encoding R105, R110: the message word the encoder writes for an event decodes to it. -/
def Obligations.DecodeReadsBackEveryEvent : Prop :=
  ∀ i : Instr, i.wellFormed = true → i.isEvent = true →
    ∃ wb : Word, encode i = [wb] ∧ wb.extractLsb' 24 8 = 0#8 ∧ decodeEvent (wb.extractLsb' 0 24) = i

/-- 30_encoding R110, R111: every 24-bit message is the encoding of exactly the event it decodes to. -/
def Obligations.EveryMessageHasOneClass : Prop :=
  ∀ msg : BitVec 24, (decodeEvent msg).wellFormed = true ∧ (decodeEvent msg).isEvent = true ∧
    encode (decodeEvent msg) = [0#8 ++ msg]

/-- 30_encoding R106: two words that differ in reserved bits only decode alike, in a header and in an event record. -/
def Obligations.ReservedBitsChangeNothing : Prop :=
  (∀ (w w' : Word) (ws : List Word), commandCode w ≠ 0x02#8 → commandCode w ≠ 0x03#8 →
    w.extractLsb' 0 8 = w'.extractLsb' 0 8 → decodeTransaction (w :: ws) = decodeTransaction (w' :: ws)) ∧
  (∀ (w w' : Word) (ws : List Word), commandCode w = 0x02#8 →
    w.extractLsb' 0 9 = w'.extractLsb' 0 9 → decodeTransaction (w :: ws) = decodeTransaction (w' :: ws)) ∧
  (∀ (w w' : Word) (ws : List Word), commandCode w = 0x03#8 →
    w.extractLsb' 0 10 = w'.extractLsb' 0 10 → decodeTransaction (w :: ws) = decodeTransaction (w' :: ws)) ∧
  (∀ wa wb wb' : Word, wb.extractLsb' 0 24 = wb'.extractLsb' 0 24 → decodeRecord wa wb = decodeRecord wa wb')

/-- 30_encoding R101, R108: the header's command code, and M for a RENDER_BLOCK, alone fix how many words a transaction
takes; it decodes exactly when that many words are there. -/
def Obligations.LengthIsFixedByCommandAndCount : Prop :=
  ∀ ws : List Word, ws ≠ [] →
    (∀ i rest, decodeTransaction ws = .ok (i, rest) →
      transactionLength ws ≤ ws.length ∧ rest = ws.drop (transactionLength ws)) ∧
    ((∃ e, decodeTransaction ws = .error e) ↔ ws.length < transactionLength ws)

/-- 43_scheduler R210: for every record, the meaning of its row of the opcode table is what ApplyEvent does on the decode
of 30_encoding R111. -/
def Obligations.EventRowsAgreeWithApplyEvent : Prop :=
  ∀ (e : EventRecord) (s : State), exec (decodeEvent e.msg) s = .next (applyEvent e s)

/-- 30_encoding R119, with the textual form of R117 and R118: each of the seven worked lines is read from its text,
assembles to its words, and the words decode to the line's instruction. A brace is written as a token, not in a string. -/
def Obligations.WorkedEncodingsReadBothWays : Prop :=
  let tenMs : RealLit := .decimal false 1 2
  let braces (head inside : String) : List Char := head.toList ++ openBrace ++ inside.toList ++ closeBrace
  let lines : List (List Char × AsmLine × List Word) :=
    [("PREPARE 48000".toList, .prepare (.decimal false 48000 0), [0x00000001#32, 0x473B8000#32]),
     ("PREPARE 44100".toList, .prepare (.decimal false 44100 0), [0x00000001#32, 0x472C4400#32]),
     ("CONFIGURE env=0 attack=0.01 release=0.01".toList, .configure false tenMs tenMs,
       [0x00000002#32, 0x3C23D70A#32, 0x3C23D70A#32]),
     ("CONFIGURE env=1 attack=0.01 release=0.01".toList, .configure true tenMs tenMs,
       [0x00000102#32, 0x3C23D70A#32, 0x3C23D70A#32]),
     (braces "RENDER ch=1 n=4 " " @0 on 69 127 ", .render 1#2 4#32 [.on 0#32 69#8 127#8 0#4],
       [0x00000103#32, 0x00000004#32, 0x00000001#32, 0x00000000#32, 0x0090457F#32]),
     (braces "RENDER ch=2 n=4 " " @1 on 60 100 ; @1 off 60 ",
       .render 2#2 4#32 [.on 1#32 60#8 100#8 0#4, .off 1#32 60#8 0#8 0#4],
       [0x00000203#32, 0x00000004#32, 0x00000002#32, 0x00000001#32, 0x00903C64#32, 0x00000001#32, 0x00803C00#32]),
     (braces "RENDER ch=1 n=0 " " ", .render 1#2 0#32 [], [0x00000103#32, 0x00000000#32, 0x00000000#32])]
  ∀ l ∈ lines, readLine l.1 = some l.2.1 ∧ assemble l.1 = some l.2.2 ∧
    decodeTransaction l.2.2 = .ok (l.2.1.instr, [])

/-- 20_memory R75: a word stream carried as bytes, least significant byte first, reads back. -/
def Obligations.ByteStreamCarriesTheWords : Prop :=
  ∀ (ws : List Word) (bs : List Byte), bs.length < 4 → wordsOfBytes (bytesOfWords ws ++ bs) = (ws, bs)

/-! ### Transactions -/

/-- 46_host R251: PREPARE completes in every state, with exactly these registers written and everything else as before. -/
def Obligations.PrepareResetsTheVoice : Prop :=
  ∀ (sr : Real32) (s : State), exec (.prepare sr) s = .next
    { s with sampleRate := sr, phase := 0x00000000#32, inc := 0x00000000#32, level := 0x00000000#32,
             slope := 0x00000000#32, active := 0#8, freq := 0x00000000#32, peak := 0x00000000#32, guardDiag := 0#32,
             prepared := true }

/-- 46_host R252: CONFIGURE completes in every state and writes its three registers and nothing else. -/
def Obligations.ConfigureWritesItsThreeRegisters : Prop :=
  ∀ (e : Bool) (atk rel : Real32) (s : State),
    exec (.configure e atk rel) s = .next { s with envEn := e, attackS := atk, releaseS := rel }

/-- 46_host R254: the seven reserved rows match exactly the codes 0x00 and 0x04 to 0xFF, take one word, and record
`BAD_CMD`. -/
def Obligations.ReservedCodesTakeBadCmd : Prop :=
  (∀ s : State, exec .reservedCmd00 s = .next { s with fault := recordFault .badCmd s.fault }) ∧
  (∀ low (s : State), exec (.reservedCmd04To07 low) s = .next { s with fault := recordFault .badCmd s.fault }) ∧
  (∀ low (s : State), exec (.reservedCmd08To0F low) s = .next { s with fault := recordFault .badCmd s.fault }) ∧
  (∀ low (s : State), exec (.reservedCmd10To1F low) s = .next { s with fault := recordFault .badCmd s.fault }) ∧
  (∀ low (s : State), exec (.reservedCmd20To3F low) s = .next { s with fault := recordFault .badCmd s.fault }) ∧
  (∀ low (s : State), exec (.reservedCmd40To7F low) s = .next { s with fault := recordFault .badCmd s.fault }) ∧
  (∀ low (s : State), exec (.reservedCmd80ToFF low) s = .next { s with fault := recordFault .badCmd s.fault }) ∧
  (∀ (w : Word) (ws : List Word), commandCode w ≠ 0x01#8 → commandCode w ≠ 0x02#8 → commandCode w ≠ 0x03#8 →
    ∃ i, decodeTransaction (w :: ws) = .ok (i, ws) ∧ reservedRowCode i = some (commandCode w)) ∧
  (∀ (w : Word) (ws : List Word) (i : Instr) (rest : List Word),
    commandCode w = 0x01#8 ∨ commandCode w = 0x02#8 ∨ commandCode w = 0x03#8 →
    decodeTransaction (w :: ws) = .ok (i, rest) → reservedRowCode i = none)

/-- 60_exceptions R270, R272, 10_state R45: the seven causes have the codes 1 to 7 of R270; recording a fault sets the
STICKY bit of its code, keeps every other one, writes the code to FIRST only while FIRST is 0, and leaves the reserved
bits. -/
def Obligations.FaultRecordKeepsTheFirstCause : Prop :=
  (Cause.badCmd.code = 1 ∧ Cause.notPrepared.code = 2 ∧ Cause.badChannels.code = 3 ∧ Cause.framesRange.code = 4 ∧
    Cause.eventsRange.code = 5 ∧ Cause.evtOffset.code = 6 ∧ Cause.evtOrder.code = 7) ∧
  ∀ (k : Cause) (f : BitVec 16),
    faultSticky (recordFault k f) k.code = true ∧
    (∀ j, j < 8 → j ≠ k.code → faultSticky (recordFault k f) j = faultSticky f j) ∧
    (faultFirst (recordFault k f)).toNat = (if faultFirst f = 0#4 then k.code else (faultFirst f).toNat) ∧
    (recordFault k f).extractLsb' 12 4 = f.extractLsb' 12 4

/-- 60_exceptions R272: a RENDER_BLOCK that fails a check records the cause and changes nothing else: no register, no
word of `OUT`. -/
def Obligations.RenderFaultRecordsItsCauseOnly : Prop :=
  ∀ (ch : BitVec 2) (n : Word) (evts : List EventRecord) (s : State) (k : Cause),
    renderCheck maxFrames maxEvents s.prepared ch n evts = some k →
    exec (.renderBlock ch n evts) s = .next { s with fault := recordFault k s.fault }

/-- 46_host R253, 60_exceptions R271, R273: the checks before the event list, in their order, for every MAX_FRAMES and
MAX_EVENTS; when all four pass, the event list decides. -/
def Obligations.RenderChecksRunInOrder : Prop :=
  ∀ (maxF maxE : Nat) (ch : BitVec 2) (n : Word) (evts : List EventRecord),
    renderCheck maxF maxE false ch n evts = some .notPrepared ∧
    (ch = 0#2 ∨ ch = 3#2 → renderCheck maxF maxE true ch n evts = some .badChannels) ∧
    (ch = 1#2 ∨ ch = 2#2 →
      (maxF < n.toNat → renderCheck maxF maxE true ch n evts = some .framesRange) ∧
      (n.toNat ≤ maxF → maxE < evts.length → renderCheck maxF maxE true ch n evts = some .eventsRange) ∧
      (n.toNat ≤ maxF → evts.length ≤ maxE → renderCheck maxF maxE true ch n evts = checkEvents n none evts))

/-- 43_scheduler R215, 60_exceptions R273: the event checks find the first failing test, event by event, offset before
order; they pass exactly the lists of ordered offsets below N. -/
def Obligations.EventChecksFindTheFirstFailure : Prop :=
  ∀ (n : Word) (evts : List EventRecord),
    (checkEvents n none evts = none ↔ EventsLegal n evts) ∧
    (checkEvents n none evts = some .evtOffset ↔
      ∃ i e, evts[i]? = some e ∧ (∀ j, j < i → EventPasses n evts j) ∧ ¬ e.ofs < n) ∧
    (checkEvents n none evts = some .evtOrder ↔
      ∃ i e p, evts[i + 1]? = some e ∧ evts[i]? = some p ∧ (∀ j, j ≤ i → EventPasses n evts j) ∧ e.ofs < n ∧
        e.ofs < p.ofs)

/-- 46_host R253 (a): no frames and no events is a block that does nothing; no frames and some event is `EVT_OFFSET`. -/
def Obligations.EmptyBlockDoesNothing : Prop :=
  (∀ (ch : BitVec 2) (s : State), s.prepared = true → (ch = 1#2 ∨ ch = 2#2) → s.render = none →
    exec (.renderBlock ch 0#32 []) s = .next s) ∧
  (∀ (e : EventRecord) (es : List EventRecord), checkEvents 0#32 none (e :: es) = some .evtOffset)

/-- 46_host R253, 45_guard R245, 10_state R50: a RENDER_BLOCK whose operands pass the checks completes; the registers it
may not write and every byte outside its words are as before, and every word it leaves in `OUT` is finite and at most 1.0
in magnitude. -/
def Obligations.RenderBlockLeavesGuardedWords : Prop :=
  ∀ (ch : BitVec 2) (n : Word) (evts : List EventRecord) (s : State),
    s.prepared = true → (ch = 1#2 ∨ ch = 2#2) → n.toNat ≤ maxFrames → evts.length ≤ maxEvents → EventsLegal n evts →
    s.out.wf = true →
    ∃ t, exec (.renderBlock ch n evts) s = .next t ∧ t.render = none ∧
      t.sampleRate = s.sampleRate ∧ t.envEn = s.envEn ∧ t.attackS = s.attackS ∧ t.releaseS = s.releaseS ∧
      t.prepared = s.prepared ∧ t.fault = s.fault ∧ t.port = s.port ∧
      (∀ c f, c < ch.toNat → f < n.toNat → sampleSafe (t.memRead c f) = true) ∧
      (∀ a, outsideBlock ch.toNat n.toNat a → t.out.readByte a = s.out.readByte a)

/-- 42_voice R187, 44_renderer R233: a block of a silent voice without events writes +0.0 to every word and changes no
register. -/
def Obligations.SilentBlockWritesZeros : Prop :=
  ∀ (ch : BitVec 2) (n : Word) (s : State),
    s.prepared = true → (ch = 1#2 ∨ ch = 2#2) → n.toNat ≤ maxFrames → s.render = none → isSilent s = true →
    s.out.wf = true →
    ∃ o, exec (.renderBlock ch n []) s = .next { s with out := o } ∧
      (∀ c f, c < ch.toNat → f < n.toNat → o.readWord (outAddr c f) = 0x00000000#32) ∧
      (∀ a, outsideBlock ch.toNat n.toNat a → o.readByte a = s.out.readByte a)

/-- 20_memory R72: what `OUT` held before a RENDER_BLOCK shows in no register and in no word the block leaves. -/
def Obligations.PriorBufferNeverShows : Prop :=
  ∀ (ch : BitVec 2) (n : Word) (evts : List EventRecord) (s : State) (o : Memory),
    s.out.wf = true → o.wf = true →
    ∃ t t', exec (.renderBlock ch n evts) s = .next t ∧ exec (.renderBlock ch n evts) { s with out := o } = .next t' ∧
      { t' with out := t.out } = t ∧
      (renderCheck maxFrames maxEvents s.prepared ch n evts = none →
        ∀ c f, c < ch.toNat → f < n.toNat → t'.memRead c f = t.memRead c f)

/-! ### Events -/

/-- 42_voice R183: NOTE_ON completes in every state; `PHASE` and `LEVEL` are not changed, nor anything else but these
five registers. -/
def Obligations.NoteOnRetunesTheVoice : Prop :=
  ∀ (chan : BitVec 4) (note vel : Byte) (s : State), exec (.noteOn chan note vel) s = .next
    { s with active := note, peak := fmul (fdiv (i2f vel) velFull) half,
             freq := fmul a4Hz (exp2 (fdiv (fsub (i2f note) a4Note) semitones)),
             slope := fdiv one (fmul s.sampleRate s.attackS),
             inc := fdiv (fmul (fmul a4Hz (exp2 (fdiv (fsub (i2f note) a4Note) semitones))) twoPi) s.sampleRate }

/-- 42_voice R184: NOTE_OFF and NOTE_ON_V0 complete in every state: the active note is released, any other is stale and
changes nothing. -/
def Obligations.NoteOffReleasesOnlyTheActiveNote : Prop :=
  ∀ (chan : BitVec 4) (note vel : Byte) (s : State),
    (note = s.active →
      exec (.noteOff chan note vel) s
        = .next { s with active := 0#8, slope := fdiv negOne (fmul s.sampleRate s.releaseS) } ∧
      exec (.noteOnV0 chan note) s
        = .next { s with active := 0#8, slope := fdiv negOne (fmul s.sampleRate s.releaseS) }) ∧
    (note ≠ s.active → exec (.noteOff chan note vel) s = .next s ∧ exec (.noteOnV0 chan note) s = .next s)

/-- 30_encoding R110, 43_scheduler R210: the seven ignored classes complete in every state and change nothing. -/
def Obligations.IgnoredMessagesChangeNothing : Prop :=
  ∀ (low7 : BitVec 7) (low : BitVec 4) (d1 d2 : Byte) (s : State),
    exec (.ignoredData low7 d1 d2) s = .next s ∧ exec (.ignoredA low d1 d2) s = .next s ∧
    exec (.ignoredB low d1 d2) s = .next s ∧ exec (.ignoredC low d1 d2) s = .next s ∧
    exec (.ignoredD low d1 d2) s = .next s ∧ exec (.ignoredE low d1 d2) s = .next s ∧
    exec (.ignoredF low d1 d2) s = .next s

/-- 43_scheduler R214: a note-on of `a` and a note-off of `b` at one offset, in either order, leave what the note-on
alone leaves; a note-on and a note-off of the same note leave the note released, with its pitch and amplitude. -/
def Obligations.StealThenReleaseFollowsListOrder : Prop :=
  ∀ (c c' : BitVec 4) (a b v v' : Byte) (s t u : State), exec (.noteOn c a v) s = .next t →
    (a ≠ b → exec (.noteOff c' b v') t = .next t) ∧
    (exec (.noteOff c' b v') s = .next u → exec (.noteOn c a v) u = .next t) ∧
    exec (.noteOff c' a v') t = .next { t with active := 0#8, slope := fdiv negOne (fmul s.sampleRate s.releaseS) }

/-! ### Voice, oscillator, envelope -/

/-- 42_voice R185, R186: a silent voice gives +0.0 and does not drift; a sounding one ticks the oscillator, and the
envelope while `ENV_EN` is 1. The phase advances by 40_oscillator R143: the sum, from which `TWO_PI` is subtracted once if
it is above `TWO_PI` and which is kept otherwise, NaN included. The level moves by 41_envelope R163, R164: the sum, held in
[0, 1], NaN kept. -/
def Obligations.OneSampleSoundsOrStaysStill : Prop :=
  ∀ s : State,
    let p := fadd s.phase s.inc
    let phase' : Real32 := if flt 0x40C90FDB#32 p then fsub p 0x40C90FDB#32 else p
    let l := fadd s.level s.slope
    let level' : Real32 := if flt 0x3F800000#32 l then 0x3F800000#32 else if flt l 0x00000000#32 then 0x00000000#32 else l
    (s.active = 0#8 ∧ (s.envEn = false ∨ feq s.level 0x00000000#32 = true) →
      renderOneSample s = (0x00000000#32, s)) ∧
    (s.active ≠ 0#8 → s.envEn = false →
      renderOneSample s = (fmul (sine s.phase) s.peak, { s with phase := phase' })) ∧
    (s.envEn = true → s.active ≠ 0#8 ∨ feq s.level 0x00000000#32 = false →
      renderOneSample s = (fmul (fmul (sine s.phase) s.peak) level', { s with phase := phase', level := level' }))

/-- 10_state R49 (b): from a phase and an increment in [0, TWO_PI] a tick leaves the phase in [0, TWO_PI], and writes
nothing else. -/
def Obligations.TickKeepsThePhaseInOneTurn : Prop :=
  ∀ s : State, inTurn s.phase = true → inTurn s.inc = true →
    inTurn (oscTick s).2.phase = true ∧ (oscTick s).2 = { s with phase := (oscTick s).2.phase }

/-- 40_oscillator R141: a zero sample rate gives an infinite increment for every positive frequency, a NaN for a zero
frequency; a NaN rate gives a NaN. -/
def Obligations.ZeroRateGivesInfiniteIncrement : Prop :=
  (∀ hz : Real32, flt posZero hz = true → oscIncrement hz posZero = 0x7F800000#32) ∧
  isNaN (oscIncrement posZero posZero) = true ∧
  (∀ hz sr : Real32, isNaN sr = true → isNaN (oscIncrement hz sr) = true)

/-- 41_envelope R166: any number of ticks with a slope that is not NaN keeps the level in [0, 1]. -/
def Obligations.EnvelopeStaysInTheUnitInterval : Prop :=
  ∀ (n : Nat) (s : State), isNaN s.slope = false → inUnit s.level = true →
    inUnit ((fun u => (envTick u).2)^[n] s).level = true ∧ ((fun u => (envTick u).2)^[n] s).slope = s.slope

/-- 41_envelope R163: an infinite slope reaches 1.0 or +0.0 in one tick, from every level in [0, 1]. -/
def Obligations.InfiniteSlopeEndsTheRampInOneTick : Prop :=
  ∀ s : State, inUnit s.level = true →
    (s.slope = 0x7F800000#32 → envTick s = (0x3F800000#32, { s with level := 0x3F800000#32 })) ∧
    (s.slope = 0xFF800000#32 → envTick s = (0x00000000#32, { s with level := 0x00000000#32 }))

/-- 41_envelope R164, 93_implementation_defined I2: a NaN level or slope gives a NaN level, which stays; with the envelope
on such a voice is never silent and its sample is NaN. -/
def Obligations.NaNLevelIsStuck : Prop :=
  ∀ s : State, isNaN s.level = true ∨ isNaN s.slope = true →
    isNaN (envTick s).2.level = true ∧
    (isNaN s.level = true → s.envEn = true → isSilent s = false ∧ isNaN (renderOneSample s).1 = true)

/-- 42_voice R181, R182: the amplitudes that R182 lists and the two frequencies that R181 gives without EXP2's low bits. -/
def Obligations.NoteTablesHoldTheListedValues : Prop :=
  noteAmplitude 127#8 = 0x3F000000#32 ∧ noteAmplitude 100#8 = 0x3EC99326#32 ∧ noteAmplitude 64#8 = 0x3E810204#32 ∧
  noteAmplitude 1#8 = 0x3B810204#32 ∧ noteAmplitude 255#8 = 0x3F808102#32 ∧
  noteFrequency 57#8 = 0x435C0000#32 ∧ noteFrequency 69#8 = 0x43DC0000#32

/-! ### Arithmetic -/

/-- 00_scope R16: the laws (a) to (c) of SIN and (d), (e) of EXP2. An integer k is the finite value of k * 2^149 units
of 2^-149; the pattern -0 is left out (log entry 17). -/
def Obligations.SineAndExponentialObeyTheirLaws : Prop :=
  sine 0x00000000#32 = 0x00000000#32 ∧ sine 0x80000000#32 = 0x80000000#32 ∧
  (∀ x, isNaN x = true ∨ isInf x = true → isNaN (sine x) = true) ∧
  (∀ x, isFinite x = true → fle (fabs (sine x)) one = true) ∧
  exp2 0x00000000#32 = 0x3F800000#32 ∧
  (∀ (x : Real32) (k : Int), x ≠ 0x80000000#32 → isFinite x = true → units x = k * 2 ^ 149 → -126 ≤ k → k ≤ 127 →
    isFinite (exp2 x) = true ∧ units (exp2 x) = 2 ^ (k + 149).toNat)

/-- 00_scope R11: rounding gives the nearest binary32 magnitude to `num / den` units of 2^-149, and of two that are
equally near the one with an even significand. -/
def Obligations.RoundingIsToNearestEven : Prop :=
  ∀ num den : Nat, 0 < den → roundBits num den < 0x7F800000 →
    ∀ y : Real32, isFinite y = true →
      let r : Real32 := BitVec.ofNat 32 (roundBits num den)
      let err (m : Nat) : Nat := ((m * den : Nat) - (num : Nat) : Int).natAbs
      err (magnitude r) ≤ err (magnitude y) ∧
      (err (magnitude r) = err (magnitude y) → magnitude r ≠ magnitude y → roundBits num den % 2 = 0)

/-- 00_scope R11: for all finite operands a sum, a difference, a product and a quotient by a value that is not zero are
the IEEE results of the exact value: nearest, even on a tie, or the infinity of its sign. A product and a quotient carry
the exclusive or of the signs, zeros and results that underflow to zero among them; a sum that is not exactly zero carries
the sign of the exact one. -/
def Obligations.OperationsRoundTheExactResult : Prop :=
  ∀ a b : Real32, isFinite a = true → isFinite b = true →
    RoundsTo (units a + units b) 1 (fadd a b) ∧
    RoundsTo (units a - units b) 1 (fsub a b) ∧
    RoundsTo (units a * units b) (2 ^ 149) (fmul a b) ∧
    (units b ≠ 0 → RoundsTo (units a * 2 ^ 149 * (units b).sign) (units b).natAbs (fdiv a b)) ∧
    (units a + units b ≠ 0 → signBit (fadd a b) = decide (units a + units b < 0)) ∧
    (units a - units b ≠ 0 → signBit (fsub a b) = decide (units a - units b < 0)) ∧
    signBit (fmul a b) = (signBit a != signBit b) ∧
    (units b ≠ 0 → signBit (fdiv a b) = (signBit a != signBit b))

/-! ### Guard and renderer -/

/-- 45_guard R245: after the guard every word of the slice is finite and at most 1.0 in magnitude, and no byte outside
the slice is touched. -/
def Obligations.GuardLeavesTheSliceSafe : Prop :=
  ∀ (c start len : Nat) (s : State), s.out.wf = true →
    (∀ f, start ≤ f → f < start + len → sampleSafe ((guardSlice c start len s).memRead c f) = true) ∧
    (∀ a, outsideSlice c start len a → (guardSlice c start len s).out.readByte a = s.out.readByte a)

/-- 45_guard R242: the first word that is neither finite nor below the 2.0 limit is NaN or infinite: every word of the
slice becomes +0.0, NONFINITE_SEEN is set, and a clamp before it stays counted. -/
def Obligations.GuardZeroesANonfiniteSlice : Prop :=
  ∀ (c start len k : Nat) (s : State), s.out.wf = true → start ≤ k → k < start + len →
    (∀ f, start ≤ f → f < k → inGuardRange (s.memRead c f) = true) → isFinite (s.memRead c k) = false →
    (∀ f, start ≤ f → f < start + len → (guardSlice c start len s).memRead c f = 0x00000000#32) ∧
    nonfiniteSeen (guardSlice c start len s).guardDiag = true ∧
    overrangeSeen (guardSlice c start len s).guardDiag = overrangeSeen s.guardDiag ∧
    (someClamped s c start k →
      (clampCount (guardSlice c start len s).guardDiag).toNat = countAfterClamp s.guardDiag) ∧
    (¬ someClamped s c start k → clampCount (guardSlice c start len s).guardDiag = clampCount s.guardDiag)

/-- 45_guard R243: the first word out of the guard's range is finite and above 2.0 in magnitude: every word of the slice
becomes +0.0 and OVERRANGE_SEEN is set. -/
def Obligations.GuardZeroesARunawaySlice : Prop :=
  ∀ (c start len k : Nat) (s : State), s.out.wf = true → start ≤ k → k < start + len →
    (∀ f, start ≤ f → f < k → inGuardRange (s.memRead c f) = true) → isFinite (s.memRead c k) = true →
    flt two (fabs (s.memRead c k)) = true →
    (∀ f, start ≤ f → f < start + len → (guardSlice c start len s).memRead c f = 0x00000000#32) ∧
    overrangeSeen (guardSlice c start len s).guardDiag = true ∧
    nonfiniteSeen (guardSlice c start len s).guardDiag = nonfiniteSeen s.guardDiag ∧
    (someClamped s c start k →
      (clampCount (guardSlice c start len s).guardDiag).toNat = countAfterClamp s.guardDiag) ∧
    (¬ someClamped s c start k → clampCount (guardSlice c start len s).guardDiag = clampCount s.guardDiag)

/-- 45_guard R244, R247: in a slice of words finite and at most 2.0, each word above 1.0 in magnitude becomes ±1.0 with
its sign and every other word stays bit for bit; the slice counts once if it clamped, and the other diagnostics stay. -/
def Obligations.GuardClampsEachSampleAndCountsOnce : Prop :=
  ∀ (c start len : Nat) (s : State), s.out.wf = true →
    (∀ f, start ≤ f → f < start + len → inGuardRange (s.memRead c f) = true) →
    (∀ f, start ≤ f → f < start + len →
      (guardSlice c start len s).memRead c f = guardedSample (s.memRead c f)) ∧
    (guardSlice c start len s).guardDiag.extractLsb' 16 16 = s.guardDiag.extractLsb' 16 16 ∧
    (someClamped s c start (start + len) →
      (clampCount (guardSlice c start len s).guardDiag).toNat = countAfterClamp s.guardDiag) ∧
    (¬ someClamped s c start (start + len) → (guardSlice c start len s).guardDiag = s.guardDiag)

/-- 44_renderer R232: with two channels a rendered span holds the same words in both, and the oscillator and the envelope
have ticked as in one call of RenderOneSample per frame, not per channel. -/
def Obligations.BothChannelsHoldTheSameWords : Prop :=
  ∀ (start len : Nat) (s : State), start + len ≤ 2 ^ 32 → s.out.wf = true →
    (∀ f, start ≤ f → f < start + len →
      (renderSpan 2 start len s).memRead 0 f = (renderSpan 2 start len s).memRead 1 f) ∧
    (renderSpan 2 start len s).phase = ((fun u => (renderOneSample u).2)^[len] s).phase ∧
    (renderSpan 2 start len s).level = ((fun u => (renderOneSample u).2)^[len] s).level

/-! ### The step -/

/-- 46_host R250: between transactions, when the port's words decode to a transaction, the step is exec of it on the
state with those words consumed. The port is the model's own field (log entry 6). -/
def Obligations.IdleStepRunsTheDecodedTransaction : Prop :=
  ∀ (s : State) (i : Instr) (rest : List Word), s.render = none → decodeTransaction s.port = .ok (i, rest) →
    step s = exec i { s with port := rest }

/-- 43_scheduler R211: inside a RENDER_BLOCK whose cursor has reached the event at EVT_INDEX, the step is exec of that
event, and EVT_INDEX goes on. Stepping inside a block is the model's choice (log entry 7). -/
def Obligations.RunningStepAppliesTheDueEvent : Prop :=
  ∀ (s : State) (r : Render) (e : EventRecord), s.render = some r → r.events[r.evtIndex.toNat]? = some e →
    ¬ r.cursor < e.ofs →
    ∃ t, exec (decodeEvent e.msg) s = .next t ∧
      step s = .next { t with render := some { r with evtIndex := r.evtIndex + 1#32 } }

/-- 46_host R250, 70_reset R300: with no transaction running and none whole at the port the block waits; while a
RENDER_BLOCK runs, nothing is taken from the port. The port is the model's own field (log entry 6). -/
def Obligations.PortWaitsItsTurn : Prop :=
  (∀ (s : State) (e : DecodeError), s.render = none → decodeTransaction s.port = .error e → step s = .next s) ∧
  (∀ (s t : State) (r : Render), s.render = some r → step s = .next t → t.port = s.port)

/-- 60_exceptions R272, R276: no instruction stops the block; a fault is a next state, and numeric trouble is none. -/
def Obligations.NoInstructionStopsTheBlock : Prop := ∀ (i : Instr) (s : State), ∃ t, exec i s = .next t

/-- 10_state R50: who may write each register, and `OUT`. -/
def Obligations.RegistersChangeOnlyByTheirWriters : Prop :=
  ∀ (i : Instr) (s t : State), exec i s = .next t →
    (t.sampleRate ≠ s.sampleRate ∨ t.prepared ≠ s.prepared → ∃ sr, i = .prepare sr) ∧
    (t.envEn ≠ s.envEn ∨ t.attackS ≠ s.attackS ∨ t.releaseS ≠ s.releaseS → ∃ e a r, i = .configure e a r) ∧
    (t.phase ≠ s.phase ∨ t.level ≠ s.level ∨ t.guardDiag ≠ s.guardDiag →
      (∃ sr, i = .prepare sr) ∨ ∃ ch n es, i = .renderBlock ch n es) ∧
    (t.inc ≠ s.inc ∨ t.freq ≠ s.freq ∨ t.peak ≠ s.peak →
      (∃ sr, i = .prepare sr) ∨ (∃ ch n es, i = .renderBlock ch n es) ∨ ∃ c n v, i = .noteOn c n v) ∧
    (t.active ≠ s.active ∨ t.slope ≠ s.slope →
      (∃ sr, i = .prepare sr) ∨ (∃ ch n es, i = .renderBlock ch n es) ∨ (∃ c n v, i = .noteOn c n v) ∨
        (∃ c n v, i = .noteOff c n v) ∨ ∃ c n, i = .noteOnV0 c n) ∧
    (t.fault ≠ s.fault → (∃ ch n es, i = .renderBlock ch n es) ∨ ∃ w, encode i = [w] ∧ i.isEvent = false) ∧
    (t.out ≠ s.out → ∃ ch n es, i = .renderBlock ch n es) ∧
    t.port = s.port

/-! ### Invariants -/

/-- 70_reset R300: the value of every register after power-on reset; the transaction-local state does not exist; the block
waits, nothing having been issued at the model's port (log entry 6). -/
def Obligations.ResetHoldsThePowerOnValues : Prop :=
  State.reset.sampleRate = 0x00000000#32 ∧ State.reset.phase = 0x00000000#32 ∧ State.reset.inc = 0x00000000#32 ∧
  State.reset.level = 0x00000000#32 ∧ State.reset.slope = 0x00000000#32 ∧ State.reset.freq = 0x00000000#32 ∧
  State.reset.peak = 0x00000000#32 ∧ State.reset.active = 0#8 ∧ State.reset.envEn = true ∧
  State.reset.attackS = 0x3C23D70A#32 ∧ State.reset.releaseS = 0x3C23D70A#32 ∧ State.reset.prepared = false ∧
  State.reset.fault = 0#16 ∧ State.reset.guardDiag = 0#32 ∧ State.reset.render = none ∧
  step State.reset = .next State.reset

/-- 70_reset R300: the state after reset satisfies every invariant below. What `OUT` reads there is the model's choice
(log entry 5). -/
def Obligations.ResetSatisfiesTheInvariants : Prop :=
  State.reset.out.wf = true ∧ faultRecordLegal State.reset.fault = true ∧ diagLegal State.reset.guardDiag = true ∧
  levelLegal State.reset.level = true ∧ State.reset.RunLegal

/-- 20_memory R71, and the model's canonical form of the buffer (log entry 5): every step keeps it. -/
def Obligations.StepKeepsTheBufferCanonical : Prop :=
  ∀ s t : State, s.out.wf = true → step s = .next t → t.out.wf = true

/-- 10_state R45, R51, 60_exceptions R272: every step keeps the fault record legal, forgets no STICKY bit and never
overwrites FIRST. -/
def Obligations.StepKeepsTheFaultRecord : Prop :=
  ∀ s t : State, faultRecordLegal s.fault = true → step s = .next t →
    faultRecordLegal t.fault = true ∧ (∀ k, faultSticky s.fault k = true → faultSticky t.fault k = true) ∧
    (faultFirst s.fault ≠ 0#4 → faultFirst t.fault = faultFirst s.fault)

/-- 10_state R49 (a), 41_envelope R164: every step keeps `LEVEL` in [0, 1], never -0, or NaN; the reserved bits of
`GUARD_DIAG` stay 0 (10_state R46). -/
def Obligations.StepKeepsLevelAndDiagnosticsLegal : Prop :=
  ∀ s t : State, levelLegal s.level = true → diagLegal s.guardDiag = true → step s = .next t →
    levelLegal t.level = true ∧ diagLegal t.guardDiag = true

/-- 43_scheduler R211, R212, 20_memory R71: from a state whose running transaction is legal, a step never stops and
leaves such a state: no span reaches a word that does not exist. -/
def Obligations.StepNeverLeavesTheBuffer : Prop :=
  ∀ s : State, s.RunLegal → ∃ t, step s = .next t ∧ t.RunLegal

/-- 43_scheduler R211, R217, 46_host R250: a running RENDER_BLOCK, stepped unit by unit, reaches within 2 (events left) + 2
steps exactly the state that the rest of ScheduleBlock gives at once; and an accepted RENDER_BLOCK runs whole in one
step. Stepping inside a block is the model's choice (log entry 7). -/
def Obligations.SteppedBlockEqualsScheduleBlock : Prop :=
  (∀ (s : State) (r : Render), s.render = some r → RenderLegal r →
    ∃ k, k ≤ 2 * r.pending.length + 2 ∧
      Host.Core.run Sys2Proof.core k s = .next (finishBlock r.frames r.pending s)) ∧
  (∀ (ch : BitVec 2) (n : Word) (evts : List EventRecord) (s : State),
    renderCheck maxFrames maxEvents s.prepared ch n evts = none →
    exec (.renderBlock ch n evts) s = .next (finishBlock n evts (s.beginRender ch n evts)))

/-- 43_scheduler R211: ScheduleBlock makes exactly the calls of its plan, in their order. -/
def Obligations.ScheduleBlockRunsItsPlan : Prop :=
  ∀ (ch : BitVec 2) (n : Word) (evts : List EventRecord) (s : State),
    scheduleBlock ch n evts s = ((blockPlan n.toNat 0 evts).foldl (runItem ch.toNat) s).endRender

/-- 43_scheduler R212, R213, R217: the plan of a legal event list renders every frame of [0, N) exactly once and in order,
in spans that are not empty and at most M + 1; it applies every event once, in list order, after exactly the frames
before its offset. -/
def Obligations.PlanCoversEveryFrameOnce : Prop :=
  ∀ (n : Word) (evts : List EventRecord), EventsLegal n evts →
    planFrames (blockPlan n.toNat 0 evts) = List.range n.toNat ∧
    planEvents (blockPlan n.toNat 0 evts) = evts ∧
    planSpans (blockPlan n.toNat 0 evts) ≤ evts.length + 1 ∧
    (∀ start len, PlanItem.span start len ∈ blockPlan n.toNat 0 evts → 0 < len) ∧
    (∀ before e after, blockPlan n.toNat 0 evts = before ++ PlanItem.event e :: after →
      planFrames before = List.range e.ofs.toNat)

/-! ### Beside the block -/

/-- 20_memory R88: a word the guard lets out becomes a 16-bit sample in [-32767, 32767] without wrapping. -/
def Obligations.SinkSamplesFitSixteenBits : Prop :=
  ∀ x : Real32, sampleSafe x = true →
    -32767 ≤ (pcmSample x).toInt ∧ (pcmSample x).toInt ≤ 32767 ∧
    (pcmSample x).toInt = roundHalfAway (units (fmul x pcmScale))

/-- 20_memory R86, R87: the header is 44 bytes, and its total length counts every byte after its own field, for every
file whose length fits the field. A longer length is cut to 32 bits, which is the model's choice (log entry 14). -/
def Obligations.SinkHeaderCountsItsBytes : Prop :=
  ∀ (channels : Nat) (rate : Word) (dataLength : Nat),
    (sinkHeader channels rate dataLength).length = 44 ∧
    ((sinkHeader channels rate dataLength).drop 4).take 4 = bytesOfWord (BitVec.ofNat 32 (44 - 8 + dataLength)) ∧
    (44 - 8 + dataLength < 2 ^ 32 → (wordsOfBytes (((sinkHeader channels rate dataLength).drop 4).take 4)).1.map
      BitVec.toNat = [(sinkHeader channels rate dataLength).length - 8 + dataLength])

/-- 20_memory R86, R87, 91_not_in_source N14: for an integral sample rate that fits 32 bits the file's header carries the
rate itself, and the rate times the block align, 2 for mono and 4 for stereo. A product that does not fit is cut to 32
bits, which is the model's choice (log entry 14), and so is a file of exactly one block with the `SAMPLE_RATE` of its state
(log entry 22). -/
def Obligations.SinkHeaderCarriesAnIntegralRate : Prop :=
  ∀ (channels frames k : Nat) (s : State), channels = 1 ∨ channels = 2 → k < 2 ^ 32 → isFinite s.sampleRate = true →
    signBit s.sampleRate = false → magnitude s.sampleRate = k * 2 ^ 149 →
    ((sinkFile channels frames s).drop 24).take 4 = bytesOfWord (BitVec.ofNat 32 k) ∧
    ((sinkFile channels frames s).drop 28).take 4 = bytesOfWord (BitVec.ofNat 32 (k * (2 * channels))) ∧
    ((sinkFile channels frames s).drop 32).take 2 = [BitVec.ofNat 8 (2 * channels), 0#8]

/-! ### The edges of the arithmetic -/

/-- 00_scope R11: rounding overflows to infinity exactly from half a unit above the largest finite value on, a tie with
the even 2^128. -/
def Obligations.RoundingOverflowsAtTheLimit : Prop :=
  ∀ num den : Nat, 0 < den → roundBits num den ≤ 0x7F800000 ∧
    (roundBits num den = 0x7F800000 ↔ (2 ^ 25 - 1) * 2 ^ 252 * den ≤ num)

/-- 00_scope R11: what the four operations give for NaN and infinite operands, for a division by zero and for an exact
sum of zero. -/
def Obligations.SpecialOperandsGiveIeeeResults : Prop :=
  ∀ a b : Real32,
    (isNaN a = true ∨ isNaN b = true →
      isNaN (fadd a b) = true ∧ isNaN (fsub a b) = true ∧ isNaN (fmul a b) = true ∧ isNaN (fdiv a b) = true) ∧
    (isInf a = true → isFinite b = true →
      fadd a b = a ∧ fadd b a = a ∧ fsub a b = a ∧ fsub b a = fneg a ∧
      fdiv a b = infinity (signBit a != signBit b) ∧
      fdiv b a = (if signBit a != signBit b then negZero else posZero) ∧
      (magnitude b = 0 → isNaN (fmul a b) = true ∧ isNaN (fmul b a) = true) ∧
      (magnitude b ≠ 0 → fmul a b = infinity (signBit a != signBit b) ∧ fmul b a = infinity (signBit a != signBit b))) ∧
    (isInf a = true → isInf b = true →
      isNaN (fdiv a b) = true ∧ fmul a b = infinity (signBit a != signBit b) ∧
      (signBit a = signBit b → fadd a b = a ∧ isNaN (fsub a b) = true) ∧
      (signBit a ≠ signBit b → isNaN (fadd a b) = true ∧ fsub a b = a)) ∧
    (isFinite a = true → isFinite b = true → magnitude b = 0 →
      (magnitude a = 0 → isNaN (fdiv a b) = true) ∧
      (magnitude a ≠ 0 → fdiv a b = infinity (signBit a != signBit b))) ∧
    (isFinite a = true → isFinite b = true → units a + units b = 0 →
      fadd a b = if signBit a && signBit b then negZero else posZero)

/-! ### The rendered samples -/

/-- 44_renderer R231: every sample RenderOneSample returns, silent or sounding, reaches the word of its frame in every
channel. While all samples of the span are finite and at most 2.0, the word is the guarded sample (45_guard R244, R247);
with one that is not, every word of the span is +0.0 (R242, R243). -/
def Obligations.RenderedSamplesReachTheBuffer : Prop :=
  ∀ (channels start len : Nat) (s : State), channels = 1 ∨ channels = 2 → start + len ≤ 2 ^ 32 → s.out.wf = true →
    ((∀ j, j < len → inGuardRange (sampleAt j s) = true) → ∀ c j, c < channels → j < len →
      (renderSpan channels start len s).memRead c (start + j) = guardedSample (sampleAt j s)) ∧
    (∀ j, j < len → inGuardRange (sampleAt j s) = false → ∀ c f, c < channels → start ≤ f → f < start + len →
      (renderSpan channels start len s).memRead c f = 0x00000000#32)

/-- 46_host R253 (b), 44_renderer R231: a RENDER_BLOCK without events whose samples are all finite and at most 2.0
completes with the voice's guarded samples in the words of every channel, frame by frame, `PHASE` and `LEVEL` ticked once
per frame, and no other register changed but `GUARD_DIAG`. -/
def Obligations.RenderBlockWritesTheVoicesSamples : Prop :=
  ∀ (ch : BitVec 2) (n : Word) (s : State),
    s.prepared = true → (ch = 1#2 ∨ ch = 2#2) → n.toNat ≤ maxFrames → s.out.wf = true →
    (∀ j, j < n.toNat → inGuardRange (sampleAt j s) = true) →
    ∃ o d, exec (.renderBlock ch n []) s = .next
        { s with phase := (voiceAfter n.toNat s).phase, level := (voiceAfter n.toNat s).level, guardDiag := d, out := o,
                 render := none } ∧
      ∀ c j, c < ch.toNat → j < n.toNat → o.readWord (outAddr c j) = guardedSample (sampleAt j s)
end

