-- ==== Sys2Proof/Laws/State.lean ====
section
/-! SUPPORT. One lemma per field of the state per register write (`State.set<Name>`): what was written reads back, every
other field is as before. -/

namespace Sys2Proof.Machine

@[simp] theorem State.setSampleRate_sampleRate (s : State) (v : Real32) : (s.setSampleRate v).sampleRate = v := rfl
@[simp] theorem State.setSampleRate_phase (s : State) (v : Real32) : (s.setSampleRate v).phase = s.phase := rfl
@[simp] theorem State.setSampleRate_inc (s : State) (v : Real32) : (s.setSampleRate v).inc = s.inc := rfl
@[simp] theorem State.setSampleRate_level (s : State) (v : Real32) : (s.setSampleRate v).level = s.level := rfl
@[simp] theorem State.setSampleRate_slope (s : State) (v : Real32) : (s.setSampleRate v).slope = s.slope := rfl
@[simp] theorem State.setSampleRate_active (s : State) (v : Real32) : (s.setSampleRate v).active = s.active := rfl
@[simp] theorem State.setSampleRate_freq (s : State) (v : Real32) : (s.setSampleRate v).freq = s.freq := rfl
@[simp] theorem State.setSampleRate_peak (s : State) (v : Real32) : (s.setSampleRate v).peak = s.peak := rfl
@[simp] theorem State.setSampleRate_envEn (s : State) (v : Real32) : (s.setSampleRate v).envEn = s.envEn := rfl
@[simp] theorem State.setSampleRate_attackS (s : State) (v : Real32) : (s.setSampleRate v).attackS = s.attackS := rfl
@[simp] theorem State.setSampleRate_releaseS (s : State) (v : Real32) : (s.setSampleRate v).releaseS = s.releaseS := rfl
@[simp] theorem State.setSampleRate_prepared (s : State) (v : Real32) : (s.setSampleRate v).prepared = s.prepared := rfl
@[simp] theorem State.setSampleRate_fault (s : State) (v : Real32) : (s.setSampleRate v).fault = s.fault := rfl
@[simp] theorem State.setSampleRate_guardDiag (s : State) (v : Real32) : (s.setSampleRate v).guardDiag = s.guardDiag := rfl
@[simp] theorem State.setSampleRate_render (s : State) (v : Real32) : (s.setSampleRate v).render = s.render := rfl
@[simp] theorem State.setSampleRate_out (s : State) (v : Real32) : (s.setSampleRate v).out = s.out := rfl
@[simp] theorem State.setSampleRate_port (s : State) (v : Real32) : (s.setSampleRate v).port = s.port := rfl

@[simp] theorem State.setPhase_sampleRate (s : State) (v : Real32) : (s.setPhase v).sampleRate = s.sampleRate := rfl
@[simp] theorem State.setPhase_phase (s : State) (v : Real32) : (s.setPhase v).phase = v := rfl
@[simp] theorem State.setPhase_inc (s : State) (v : Real32) : (s.setPhase v).inc = s.inc := rfl
@[simp] theorem State.setPhase_level (s : State) (v : Real32) : (s.setPhase v).level = s.level := rfl
@[simp] theorem State.setPhase_slope (s : State) (v : Real32) : (s.setPhase v).slope = s.slope := rfl
@[simp] theorem State.setPhase_active (s : State) (v : Real32) : (s.setPhase v).active = s.active := rfl
@[simp] theorem State.setPhase_freq (s : State) (v : Real32) : (s.setPhase v).freq = s.freq := rfl
@[simp] theorem State.setPhase_peak (s : State) (v : Real32) : (s.setPhase v).peak = s.peak := rfl
@[simp] theorem State.setPhase_envEn (s : State) (v : Real32) : (s.setPhase v).envEn = s.envEn := rfl
@[simp] theorem State.setPhase_attackS (s : State) (v : Real32) : (s.setPhase v).attackS = s.attackS := rfl
@[simp] theorem State.setPhase_releaseS (s : State) (v : Real32) : (s.setPhase v).releaseS = s.releaseS := rfl
@[simp] theorem State.setPhase_prepared (s : State) (v : Real32) : (s.setPhase v).prepared = s.prepared := rfl
@[simp] theorem State.setPhase_fault (s : State) (v : Real32) : (s.setPhase v).fault = s.fault := rfl
@[simp] theorem State.setPhase_guardDiag (s : State) (v : Real32) : (s.setPhase v).guardDiag = s.guardDiag := rfl
@[simp] theorem State.setPhase_render (s : State) (v : Real32) : (s.setPhase v).render = s.render := rfl
@[simp] theorem State.setPhase_out (s : State) (v : Real32) : (s.setPhase v).out = s.out := rfl
@[simp] theorem State.setPhase_port (s : State) (v : Real32) : (s.setPhase v).port = s.port := rfl

@[simp] theorem State.setInc_sampleRate (s : State) (v : Real32) : (s.setInc v).sampleRate = s.sampleRate := rfl
@[simp] theorem State.setInc_phase (s : State) (v : Real32) : (s.setInc v).phase = s.phase := rfl
@[simp] theorem State.setInc_inc (s : State) (v : Real32) : (s.setInc v).inc = v := rfl
@[simp] theorem State.setInc_level (s : State) (v : Real32) : (s.setInc v).level = s.level := rfl
@[simp] theorem State.setInc_slope (s : State) (v : Real32) : (s.setInc v).slope = s.slope := rfl
@[simp] theorem State.setInc_active (s : State) (v : Real32) : (s.setInc v).active = s.active := rfl
@[simp] theorem State.setInc_freq (s : State) (v : Real32) : (s.setInc v).freq = s.freq := rfl
@[simp] theorem State.setInc_peak (s : State) (v : Real32) : (s.setInc v).peak = s.peak := rfl
@[simp] theorem State.setInc_envEn (s : State) (v : Real32) : (s.setInc v).envEn = s.envEn := rfl
@[simp] theorem State.setInc_attackS (s : State) (v : Real32) : (s.setInc v).attackS = s.attackS := rfl
@[simp] theorem State.setInc_releaseS (s : State) (v : Real32) : (s.setInc v).releaseS = s.releaseS := rfl
@[simp] theorem State.setInc_prepared (s : State) (v : Real32) : (s.setInc v).prepared = s.prepared := rfl
@[simp] theorem State.setInc_fault (s : State) (v : Real32) : (s.setInc v).fault = s.fault := rfl
@[simp] theorem State.setInc_guardDiag (s : State) (v : Real32) : (s.setInc v).guardDiag = s.guardDiag := rfl
@[simp] theorem State.setInc_render (s : State) (v : Real32) : (s.setInc v).render = s.render := rfl
@[simp] theorem State.setInc_out (s : State) (v : Real32) : (s.setInc v).out = s.out := rfl
@[simp] theorem State.setInc_port (s : State) (v : Real32) : (s.setInc v).port = s.port := rfl

@[simp] theorem State.setLevel_sampleRate (s : State) (v : Real32) : (s.setLevel v).sampleRate = s.sampleRate := rfl
@[simp] theorem State.setLevel_phase (s : State) (v : Real32) : (s.setLevel v).phase = s.phase := rfl
@[simp] theorem State.setLevel_inc (s : State) (v : Real32) : (s.setLevel v).inc = s.inc := rfl
@[simp] theorem State.setLevel_level (s : State) (v : Real32) : (s.setLevel v).level = v := rfl
@[simp] theorem State.setLevel_slope (s : State) (v : Real32) : (s.setLevel v).slope = s.slope := rfl
@[simp] theorem State.setLevel_active (s : State) (v : Real32) : (s.setLevel v).active = s.active := rfl
@[simp] theorem State.setLevel_freq (s : State) (v : Real32) : (s.setLevel v).freq = s.freq := rfl
@[simp] theorem State.setLevel_peak (s : State) (v : Real32) : (s.setLevel v).peak = s.peak := rfl
@[simp] theorem State.setLevel_envEn (s : State) (v : Real32) : (s.setLevel v).envEn = s.envEn := rfl
@[simp] theorem State.setLevel_attackS (s : State) (v : Real32) : (s.setLevel v).attackS = s.attackS := rfl
@[simp] theorem State.setLevel_releaseS (s : State) (v : Real32) : (s.setLevel v).releaseS = s.releaseS := rfl
@[simp] theorem State.setLevel_prepared (s : State) (v : Real32) : (s.setLevel v).prepared = s.prepared := rfl
@[simp] theorem State.setLevel_fault (s : State) (v : Real32) : (s.setLevel v).fault = s.fault := rfl
@[simp] theorem State.setLevel_guardDiag (s : State) (v : Real32) : (s.setLevel v).guardDiag = s.guardDiag := rfl
@[simp] theorem State.setLevel_render (s : State) (v : Real32) : (s.setLevel v).render = s.render := rfl
@[simp] theorem State.setLevel_out (s : State) (v : Real32) : (s.setLevel v).out = s.out := rfl
@[simp] theorem State.setLevel_port (s : State) (v : Real32) : (s.setLevel v).port = s.port := rfl

@[simp] theorem State.setSlope_sampleRate (s : State) (v : Real32) : (s.setSlope v).sampleRate = s.sampleRate := rfl
@[simp] theorem State.setSlope_phase (s : State) (v : Real32) : (s.setSlope v).phase = s.phase := rfl
@[simp] theorem State.setSlope_inc (s : State) (v : Real32) : (s.setSlope v).inc = s.inc := rfl
@[simp] theorem State.setSlope_level (s : State) (v : Real32) : (s.setSlope v).level = s.level := rfl
@[simp] theorem State.setSlope_slope (s : State) (v : Real32) : (s.setSlope v).slope = v := rfl
@[simp] theorem State.setSlope_active (s : State) (v : Real32) : (s.setSlope v).active = s.active := rfl
@[simp] theorem State.setSlope_freq (s : State) (v : Real32) : (s.setSlope v).freq = s.freq := rfl
@[simp] theorem State.setSlope_peak (s : State) (v : Real32) : (s.setSlope v).peak = s.peak := rfl
@[simp] theorem State.setSlope_envEn (s : State) (v : Real32) : (s.setSlope v).envEn = s.envEn := rfl
@[simp] theorem State.setSlope_attackS (s : State) (v : Real32) : (s.setSlope v).attackS = s.attackS := rfl
@[simp] theorem State.setSlope_releaseS (s : State) (v : Real32) : (s.setSlope v).releaseS = s.releaseS := rfl
@[simp] theorem State.setSlope_prepared (s : State) (v : Real32) : (s.setSlope v).prepared = s.prepared := rfl
@[simp] theorem State.setSlope_fault (s : State) (v : Real32) : (s.setSlope v).fault = s.fault := rfl
@[simp] theorem State.setSlope_guardDiag (s : State) (v : Real32) : (s.setSlope v).guardDiag = s.guardDiag := rfl
@[simp] theorem State.setSlope_render (s : State) (v : Real32) : (s.setSlope v).render = s.render := rfl
@[simp] theorem State.setSlope_out (s : State) (v : Real32) : (s.setSlope v).out = s.out := rfl
@[simp] theorem State.setSlope_port (s : State) (v : Real32) : (s.setSlope v).port = s.port := rfl

@[simp] theorem State.setActive_sampleRate (s : State) (v : Byte) : (s.setActive v).sampleRate = s.sampleRate := rfl
@[simp] theorem State.setActive_phase (s : State) (v : Byte) : (s.setActive v).phase = s.phase := rfl
@[simp] theorem State.setActive_inc (s : State) (v : Byte) : (s.setActive v).inc = s.inc := rfl
@[simp] theorem State.setActive_level (s : State) (v : Byte) : (s.setActive v).level = s.level := rfl
@[simp] theorem State.setActive_slope (s : State) (v : Byte) : (s.setActive v).slope = s.slope := rfl
@[simp] theorem State.setActive_active (s : State) (v : Byte) : (s.setActive v).active = v := rfl
@[simp] theorem State.setActive_freq (s : State) (v : Byte) : (s.setActive v).freq = s.freq := rfl
@[simp] theorem State.setActive_peak (s : State) (v : Byte) : (s.setActive v).peak = s.peak := rfl
@[simp] theorem State.setActive_envEn (s : State) (v : Byte) : (s.setActive v).envEn = s.envEn := rfl
@[simp] theorem State.setActive_attackS (s : State) (v : Byte) : (s.setActive v).attackS = s.attackS := rfl
@[simp] theorem State.setActive_releaseS (s : State) (v : Byte) : (s.setActive v).releaseS = s.releaseS := rfl
@[simp] theorem State.setActive_prepared (s : State) (v : Byte) : (s.setActive v).prepared = s.prepared := rfl
@[simp] theorem State.setActive_fault (s : State) (v : Byte) : (s.setActive v).fault = s.fault := rfl
@[simp] theorem State.setActive_guardDiag (s : State) (v : Byte) : (s.setActive v).guardDiag = s.guardDiag := rfl
@[simp] theorem State.setActive_render (s : State) (v : Byte) : (s.setActive v).render = s.render := rfl
@[simp] theorem State.setActive_out (s : State) (v : Byte) : (s.setActive v).out = s.out := rfl
@[simp] theorem State.setActive_port (s : State) (v : Byte) : (s.setActive v).port = s.port := rfl

@[simp] theorem State.setFreq_sampleRate (s : State) (v : Real32) : (s.setFreq v).sampleRate = s.sampleRate := rfl
@[simp] theorem State.setFreq_phase (s : State) (v : Real32) : (s.setFreq v).phase = s.phase := rfl
@[simp] theorem State.setFreq_inc (s : State) (v : Real32) : (s.setFreq v).inc = s.inc := rfl
@[simp] theorem State.setFreq_level (s : State) (v : Real32) : (s.setFreq v).level = s.level := rfl
@[simp] theorem State.setFreq_slope (s : State) (v : Real32) : (s.setFreq v).slope = s.slope := rfl
@[simp] theorem State.setFreq_active (s : State) (v : Real32) : (s.setFreq v).active = s.active := rfl
@[simp] theorem State.setFreq_freq (s : State) (v : Real32) : (s.setFreq v).freq = v := rfl
@[simp] theorem State.setFreq_peak (s : State) (v : Real32) : (s.setFreq v).peak = s.peak := rfl
@[simp] theorem State.setFreq_envEn (s : State) (v : Real32) : (s.setFreq v).envEn = s.envEn := rfl
@[simp] theorem State.setFreq_attackS (s : State) (v : Real32) : (s.setFreq v).attackS = s.attackS := rfl
@[simp] theorem State.setFreq_releaseS (s : State) (v : Real32) : (s.setFreq v).releaseS = s.releaseS := rfl
@[simp] theorem State.setFreq_prepared (s : State) (v : Real32) : (s.setFreq v).prepared = s.prepared := rfl
@[simp] theorem State.setFreq_fault (s : State) (v : Real32) : (s.setFreq v).fault = s.fault := rfl
@[simp] theorem State.setFreq_guardDiag (s : State) (v : Real32) : (s.setFreq v).guardDiag = s.guardDiag := rfl
@[simp] theorem State.setFreq_render (s : State) (v : Real32) : (s.setFreq v).render = s.render := rfl
@[simp] theorem State.setFreq_out (s : State) (v : Real32) : (s.setFreq v).out = s.out := rfl
@[simp] theorem State.setFreq_port (s : State) (v : Real32) : (s.setFreq v).port = s.port := rfl

@[simp] theorem State.setPeak_sampleRate (s : State) (v : Real32) : (s.setPeak v).sampleRate = s.sampleRate := rfl
@[simp] theorem State.setPeak_phase (s : State) (v : Real32) : (s.setPeak v).phase = s.phase := rfl
@[simp] theorem State.setPeak_inc (s : State) (v : Real32) : (s.setPeak v).inc = s.inc := rfl
@[simp] theorem State.setPeak_level (s : State) (v : Real32) : (s.setPeak v).level = s.level := rfl
@[simp] theorem State.setPeak_slope (s : State) (v : Real32) : (s.setPeak v).slope = s.slope := rfl
@[simp] theorem State.setPeak_active (s : State) (v : Real32) : (s.setPeak v).active = s.active := rfl
@[simp] theorem State.setPeak_freq (s : State) (v : Real32) : (s.setPeak v).freq = s.freq := rfl
@[simp] theorem State.setPeak_peak (s : State) (v : Real32) : (s.setPeak v).peak = v := rfl
@[simp] theorem State.setPeak_envEn (s : State) (v : Real32) : (s.setPeak v).envEn = s.envEn := rfl
@[simp] theorem State.setPeak_attackS (s : State) (v : Real32) : (s.setPeak v).attackS = s.attackS := rfl
@[simp] theorem State.setPeak_releaseS (s : State) (v : Real32) : (s.setPeak v).releaseS = s.releaseS := rfl
@[simp] theorem State.setPeak_prepared (s : State) (v : Real32) : (s.setPeak v).prepared = s.prepared := rfl
@[simp] theorem State.setPeak_fault (s : State) (v : Real32) : (s.setPeak v).fault = s.fault := rfl
@[simp] theorem State.setPeak_guardDiag (s : State) (v : Real32) : (s.setPeak v).guardDiag = s.guardDiag := rfl
@[simp] theorem State.setPeak_render (s : State) (v : Real32) : (s.setPeak v).render = s.render := rfl
@[simp] theorem State.setPeak_out (s : State) (v : Real32) : (s.setPeak v).out = s.out := rfl
@[simp] theorem State.setPeak_port (s : State) (v : Real32) : (s.setPeak v).port = s.port := rfl

@[simp] theorem State.setEnvEn_sampleRate (s : State) (v : Bool) : (s.setEnvEn v).sampleRate = s.sampleRate := rfl
@[simp] theorem State.setEnvEn_phase (s : State) (v : Bool) : (s.setEnvEn v).phase = s.phase := rfl
@[simp] theorem State.setEnvEn_inc (s : State) (v : Bool) : (s.setEnvEn v).inc = s.inc := rfl
@[simp] theorem State.setEnvEn_level (s : State) (v : Bool) : (s.setEnvEn v).level = s.level := rfl
@[simp] theorem State.setEnvEn_slope (s : State) (v : Bool) : (s.setEnvEn v).slope = s.slope := rfl
@[simp] theorem State.setEnvEn_active (s : State) (v : Bool) : (s.setEnvEn v).active = s.active := rfl
@[simp] theorem State.setEnvEn_freq (s : State) (v : Bool) : (s.setEnvEn v).freq = s.freq := rfl
@[simp] theorem State.setEnvEn_peak (s : State) (v : Bool) : (s.setEnvEn v).peak = s.peak := rfl
@[simp] theorem State.setEnvEn_envEn (s : State) (v : Bool) : (s.setEnvEn v).envEn = v := rfl
@[simp] theorem State.setEnvEn_attackS (s : State) (v : Bool) : (s.setEnvEn v).attackS = s.attackS := rfl
@[simp] theorem State.setEnvEn_releaseS (s : State) (v : Bool) : (s.setEnvEn v).releaseS = s.releaseS := rfl
@[simp] theorem State.setEnvEn_prepared (s : State) (v : Bool) : (s.setEnvEn v).prepared = s.prepared := rfl
@[simp] theorem State.setEnvEn_fault (s : State) (v : Bool) : (s.setEnvEn v).fault = s.fault := rfl
@[simp] theorem State.setEnvEn_guardDiag (s : State) (v : Bool) : (s.setEnvEn v).guardDiag = s.guardDiag := rfl
@[simp] theorem State.setEnvEn_render (s : State) (v : Bool) : (s.setEnvEn v).render = s.render := rfl
@[simp] theorem State.setEnvEn_out (s : State) (v : Bool) : (s.setEnvEn v).out = s.out := rfl
@[simp] theorem State.setEnvEn_port (s : State) (v : Bool) : (s.setEnvEn v).port = s.port := rfl

@[simp] theorem State.setAttackS_sampleRate (s : State) (v : Real32) : (s.setAttackS v).sampleRate = s.sampleRate := rfl
@[simp] theorem State.setAttackS_phase (s : State) (v : Real32) : (s.setAttackS v).phase = s.phase := rfl
@[simp] theorem State.setAttackS_inc (s : State) (v : Real32) : (s.setAttackS v).inc = s.inc := rfl
@[simp] theorem State.setAttackS_level (s : State) (v : Real32) : (s.setAttackS v).level = s.level := rfl
@[simp] theorem State.setAttackS_slope (s : State) (v : Real32) : (s.setAttackS v).slope = s.slope := rfl
@[simp] theorem State.setAttackS_active (s : State) (v : Real32) : (s.setAttackS v).active = s.active := rfl
@[simp] theorem State.setAttackS_freq (s : State) (v : Real32) : (s.setAttackS v).freq = s.freq := rfl
@[simp] theorem State.setAttackS_peak (s : State) (v : Real32) : (s.setAttackS v).peak = s.peak := rfl
@[simp] theorem State.setAttackS_envEn (s : State) (v : Real32) : (s.setAttackS v).envEn = s.envEn := rfl
@[simp] theorem State.setAttackS_attackS (s : State) (v : Real32) : (s.setAttackS v).attackS = v := rfl
@[simp] theorem State.setAttackS_releaseS (s : State) (v : Real32) : (s.setAttackS v).releaseS = s.releaseS := rfl
@[simp] theorem State.setAttackS_prepared (s : State) (v : Real32) : (s.setAttackS v).prepared = s.prepared := rfl
@[simp] theorem State.setAttackS_fault (s : State) (v : Real32) : (s.setAttackS v).fault = s.fault := rfl
@[simp] theorem State.setAttackS_guardDiag (s : State) (v : Real32) : (s.setAttackS v).guardDiag = s.guardDiag := rfl
@[simp] theorem State.setAttackS_render (s : State) (v : Real32) : (s.setAttackS v).render = s.render := rfl
@[simp] theorem State.setAttackS_out (s : State) (v : Real32) : (s.setAttackS v).out = s.out := rfl
@[simp] theorem State.setAttackS_port (s : State) (v : Real32) : (s.setAttackS v).port = s.port := rfl

@[simp] theorem State.setReleaseS_sampleRate (s : State) (v : Real32) : (s.setReleaseS v).sampleRate = s.sampleRate := rfl
@[simp] theorem State.setReleaseS_phase (s : State) (v : Real32) : (s.setReleaseS v).phase = s.phase := rfl
@[simp] theorem State.setReleaseS_inc (s : State) (v : Real32) : (s.setReleaseS v).inc = s.inc := rfl
@[simp] theorem State.setReleaseS_level (s : State) (v : Real32) : (s.setReleaseS v).level = s.level := rfl
@[simp] theorem State.setReleaseS_slope (s : State) (v : Real32) : (s.setReleaseS v).slope = s.slope := rfl
@[simp] theorem State.setReleaseS_active (s : State) (v : Real32) : (s.setReleaseS v).active = s.active := rfl
@[simp] theorem State.setReleaseS_freq (s : State) (v : Real32) : (s.setReleaseS v).freq = s.freq := rfl
@[simp] theorem State.setReleaseS_peak (s : State) (v : Real32) : (s.setReleaseS v).peak = s.peak := rfl
@[simp] theorem State.setReleaseS_envEn (s : State) (v : Real32) : (s.setReleaseS v).envEn = s.envEn := rfl
@[simp] theorem State.setReleaseS_attackS (s : State) (v : Real32) : (s.setReleaseS v).attackS = s.attackS := rfl
@[simp] theorem State.setReleaseS_releaseS (s : State) (v : Real32) : (s.setReleaseS v).releaseS = v := rfl
@[simp] theorem State.setReleaseS_prepared (s : State) (v : Real32) : (s.setReleaseS v).prepared = s.prepared := rfl
@[simp] theorem State.setReleaseS_fault (s : State) (v : Real32) : (s.setReleaseS v).fault = s.fault := rfl
@[simp] theorem State.setReleaseS_guardDiag (s : State) (v : Real32) : (s.setReleaseS v).guardDiag = s.guardDiag := rfl
@[simp] theorem State.setReleaseS_render (s : State) (v : Real32) : (s.setReleaseS v).render = s.render := rfl
@[simp] theorem State.setReleaseS_out (s : State) (v : Real32) : (s.setReleaseS v).out = s.out := rfl
@[simp] theorem State.setReleaseS_port (s : State) (v : Real32) : (s.setReleaseS v).port = s.port := rfl

@[simp] theorem State.setPrepared_sampleRate (s : State) (v : Bool) : (s.setPrepared v).sampleRate = s.sampleRate := rfl
@[simp] theorem State.setPrepared_phase (s : State) (v : Bool) : (s.setPrepared v).phase = s.phase := rfl
@[simp] theorem State.setPrepared_inc (s : State) (v : Bool) : (s.setPrepared v).inc = s.inc := rfl
@[simp] theorem State.setPrepared_level (s : State) (v : Bool) : (s.setPrepared v).level = s.level := rfl
@[simp] theorem State.setPrepared_slope (s : State) (v : Bool) : (s.setPrepared v).slope = s.slope := rfl
@[simp] theorem State.setPrepared_active (s : State) (v : Bool) : (s.setPrepared v).active = s.active := rfl
@[simp] theorem State.setPrepared_freq (s : State) (v : Bool) : (s.setPrepared v).freq = s.freq := rfl
@[simp] theorem State.setPrepared_peak (s : State) (v : Bool) : (s.setPrepared v).peak = s.peak := rfl
@[simp] theorem State.setPrepared_envEn (s : State) (v : Bool) : (s.setPrepared v).envEn = s.envEn := rfl
@[simp] theorem State.setPrepared_attackS (s : State) (v : Bool) : (s.setPrepared v).attackS = s.attackS := rfl
@[simp] theorem State.setPrepared_releaseS (s : State) (v : Bool) : (s.setPrepared v).releaseS = s.releaseS := rfl
@[simp] theorem State.setPrepared_prepared (s : State) (v : Bool) : (s.setPrepared v).prepared = v := rfl
@[simp] theorem State.setPrepared_fault (s : State) (v : Bool) : (s.setPrepared v).fault = s.fault := rfl
@[simp] theorem State.setPrepared_guardDiag (s : State) (v : Bool) : (s.setPrepared v).guardDiag = s.guardDiag := rfl
@[simp] theorem State.setPrepared_render (s : State) (v : Bool) : (s.setPrepared v).render = s.render := rfl
@[simp] theorem State.setPrepared_out (s : State) (v : Bool) : (s.setPrepared v).out = s.out := rfl
@[simp] theorem State.setPrepared_port (s : State) (v : Bool) : (s.setPrepared v).port = s.port := rfl

@[simp] theorem State.setFault_sampleRate (s : State) (v : BitVec 16) : (s.setFault v).sampleRate = s.sampleRate := rfl
@[simp] theorem State.setFault_phase (s : State) (v : BitVec 16) : (s.setFault v).phase = s.phase := rfl
@[simp] theorem State.setFault_inc (s : State) (v : BitVec 16) : (s.setFault v).inc = s.inc := rfl
@[simp] theorem State.setFault_level (s : State) (v : BitVec 16) : (s.setFault v).level = s.level := rfl
@[simp] theorem State.setFault_slope (s : State) (v : BitVec 16) : (s.setFault v).slope = s.slope := rfl
@[simp] theorem State.setFault_active (s : State) (v : BitVec 16) : (s.setFault v).active = s.active := rfl
@[simp] theorem State.setFault_freq (s : State) (v : BitVec 16) : (s.setFault v).freq = s.freq := rfl
@[simp] theorem State.setFault_peak (s : State) (v : BitVec 16) : (s.setFault v).peak = s.peak := rfl
@[simp] theorem State.setFault_envEn (s : State) (v : BitVec 16) : (s.setFault v).envEn = s.envEn := rfl
@[simp] theorem State.setFault_attackS (s : State) (v : BitVec 16) : (s.setFault v).attackS = s.attackS := rfl
@[simp] theorem State.setFault_releaseS (s : State) (v : BitVec 16) : (s.setFault v).releaseS = s.releaseS := rfl
@[simp] theorem State.setFault_prepared (s : State) (v : BitVec 16) : (s.setFault v).prepared = s.prepared := rfl
@[simp] theorem State.setFault_fault (s : State) (v : BitVec 16) : (s.setFault v).fault = v := rfl
@[simp] theorem State.setFault_guardDiag (s : State) (v : BitVec 16) : (s.setFault v).guardDiag = s.guardDiag := rfl
@[simp] theorem State.setFault_render (s : State) (v : BitVec 16) : (s.setFault v).render = s.render := rfl
@[simp] theorem State.setFault_out (s : State) (v : BitVec 16) : (s.setFault v).out = s.out := rfl
@[simp] theorem State.setFault_port (s : State) (v : BitVec 16) : (s.setFault v).port = s.port := rfl

@[simp] theorem State.setGuardDiag_sampleRate (s : State) (v : BitVec 32) : (s.setGuardDiag v).sampleRate = s.sampleRate := rfl
@[simp] theorem State.setGuardDiag_phase (s : State) (v : BitVec 32) : (s.setGuardDiag v).phase = s.phase := rfl
@[simp] theorem State.setGuardDiag_inc (s : State) (v : BitVec 32) : (s.setGuardDiag v).inc = s.inc := rfl
@[simp] theorem State.setGuardDiag_level (s : State) (v : BitVec 32) : (s.setGuardDiag v).level = s.level := rfl
@[simp] theorem State.setGuardDiag_slope (s : State) (v : BitVec 32) : (s.setGuardDiag v).slope = s.slope := rfl
@[simp] theorem State.setGuardDiag_active (s : State) (v : BitVec 32) : (s.setGuardDiag v).active = s.active := rfl
@[simp] theorem State.setGuardDiag_freq (s : State) (v : BitVec 32) : (s.setGuardDiag v).freq = s.freq := rfl
@[simp] theorem State.setGuardDiag_peak (s : State) (v : BitVec 32) : (s.setGuardDiag v).peak = s.peak := rfl
@[simp] theorem State.setGuardDiag_envEn (s : State) (v : BitVec 32) : (s.setGuardDiag v).envEn = s.envEn := rfl
@[simp] theorem State.setGuardDiag_attackS (s : State) (v : BitVec 32) : (s.setGuardDiag v).attackS = s.attackS := rfl
@[simp] theorem State.setGuardDiag_releaseS (s : State) (v : BitVec 32) : (s.setGuardDiag v).releaseS = s.releaseS := rfl
@[simp] theorem State.setGuardDiag_prepared (s : State) (v : BitVec 32) : (s.setGuardDiag v).prepared = s.prepared := rfl
@[simp] theorem State.setGuardDiag_fault (s : State) (v : BitVec 32) : (s.setGuardDiag v).fault = s.fault := rfl
@[simp] theorem State.setGuardDiag_guardDiag (s : State) (v : BitVec 32) : (s.setGuardDiag v).guardDiag = v := rfl
@[simp] theorem State.setGuardDiag_render (s : State) (v : BitVec 32) : (s.setGuardDiag v).render = s.render := rfl
@[simp] theorem State.setGuardDiag_out (s : State) (v : BitVec 32) : (s.setGuardDiag v).out = s.out := rfl
@[simp] theorem State.setGuardDiag_port (s : State) (v : BitVec 32) : (s.setGuardDiag v).port = s.port := rfl

@[simp] theorem State.setRender_sampleRate (s : State) (v : Option Render) : (s.setRender v).sampleRate = s.sampleRate := rfl
@[simp] theorem State.setRender_phase (s : State) (v : Option Render) : (s.setRender v).phase = s.phase := rfl
@[simp] theorem State.setRender_inc (s : State) (v : Option Render) : (s.setRender v).inc = s.inc := rfl
@[simp] theorem State.setRender_level (s : State) (v : Option Render) : (s.setRender v).level = s.level := rfl
@[simp] theorem State.setRender_slope (s : State) (v : Option Render) : (s.setRender v).slope = s.slope := rfl
@[simp] theorem State.setRender_active (s : State) (v : Option Render) : (s.setRender v).active = s.active := rfl
@[simp] theorem State.setRender_freq (s : State) (v : Option Render) : (s.setRender v).freq = s.freq := rfl
@[simp] theorem State.setRender_peak (s : State) (v : Option Render) : (s.setRender v).peak = s.peak := rfl
@[simp] theorem State.setRender_envEn (s : State) (v : Option Render) : (s.setRender v).envEn = s.envEn := rfl
@[simp] theorem State.setRender_attackS (s : State) (v : Option Render) : (s.setRender v).attackS = s.attackS := rfl
@[simp] theorem State.setRender_releaseS (s : State) (v : Option Render) : (s.setRender v).releaseS = s.releaseS := rfl
@[simp] theorem State.setRender_prepared (s : State) (v : Option Render) : (s.setRender v).prepared = s.prepared := rfl
@[simp] theorem State.setRender_fault (s : State) (v : Option Render) : (s.setRender v).fault = s.fault := rfl
@[simp] theorem State.setRender_guardDiag (s : State) (v : Option Render) : (s.setRender v).guardDiag = s.guardDiag := rfl
@[simp] theorem State.setRender_render (s : State) (v : Option Render) : (s.setRender v).render = v := rfl
@[simp] theorem State.setRender_out (s : State) (v : Option Render) : (s.setRender v).out = s.out := rfl
@[simp] theorem State.setRender_port (s : State) (v : Option Render) : (s.setRender v).port = s.port := rfl

@[simp] theorem State.setOut_sampleRate (s : State) (v : Memory) : (s.setOut v).sampleRate = s.sampleRate := rfl
@[simp] theorem State.setOut_phase (s : State) (v : Memory) : (s.setOut v).phase = s.phase := rfl
@[simp] theorem State.setOut_inc (s : State) (v : Memory) : (s.setOut v).inc = s.inc := rfl
@[simp] theorem State.setOut_level (s : State) (v : Memory) : (s.setOut v).level = s.level := rfl
@[simp] theorem State.setOut_slope (s : State) (v : Memory) : (s.setOut v).slope = s.slope := rfl
@[simp] theorem State.setOut_active (s : State) (v : Memory) : (s.setOut v).active = s.active := rfl
@[simp] theorem State.setOut_freq (s : State) (v : Memory) : (s.setOut v).freq = s.freq := rfl
@[simp] theorem State.setOut_peak (s : State) (v : Memory) : (s.setOut v).peak = s.peak := rfl
@[simp] theorem State.setOut_envEn (s : State) (v : Memory) : (s.setOut v).envEn = s.envEn := rfl
@[simp] theorem State.setOut_attackS (s : State) (v : Memory) : (s.setOut v).attackS = s.attackS := rfl
@[simp] theorem State.setOut_releaseS (s : State) (v : Memory) : (s.setOut v).releaseS = s.releaseS := rfl
@[simp] theorem State.setOut_prepared (s : State) (v : Memory) : (s.setOut v).prepared = s.prepared := rfl
@[simp] theorem State.setOut_fault (s : State) (v : Memory) : (s.setOut v).fault = s.fault := rfl
@[simp] theorem State.setOut_guardDiag (s : State) (v : Memory) : (s.setOut v).guardDiag = s.guardDiag := rfl
@[simp] theorem State.setOut_render (s : State) (v : Memory) : (s.setOut v).render = s.render := rfl
@[simp] theorem State.setOut_out (s : State) (v : Memory) : (s.setOut v).out = v := rfl
@[simp] theorem State.setOut_port (s : State) (v : Memory) : (s.setOut v).port = s.port := rfl

@[simp] theorem State.setPort_sampleRate (s : State) (v : List Word) : (s.setPort v).sampleRate = s.sampleRate := rfl
@[simp] theorem State.setPort_phase (s : State) (v : List Word) : (s.setPort v).phase = s.phase := rfl
@[simp] theorem State.setPort_inc (s : State) (v : List Word) : (s.setPort v).inc = s.inc := rfl
@[simp] theorem State.setPort_level (s : State) (v : List Word) : (s.setPort v).level = s.level := rfl
@[simp] theorem State.setPort_slope (s : State) (v : List Word) : (s.setPort v).slope = s.slope := rfl
@[simp] theorem State.setPort_active (s : State) (v : List Word) : (s.setPort v).active = s.active := rfl
@[simp] theorem State.setPort_freq (s : State) (v : List Word) : (s.setPort v).freq = s.freq := rfl
@[simp] theorem State.setPort_peak (s : State) (v : List Word) : (s.setPort v).peak = s.peak := rfl
@[simp] theorem State.setPort_envEn (s : State) (v : List Word) : (s.setPort v).envEn = s.envEn := rfl
@[simp] theorem State.setPort_attackS (s : State) (v : List Word) : (s.setPort v).attackS = s.attackS := rfl
@[simp] theorem State.setPort_releaseS (s : State) (v : List Word) : (s.setPort v).releaseS = s.releaseS := rfl
@[simp] theorem State.setPort_prepared (s : State) (v : List Word) : (s.setPort v).prepared = s.prepared := rfl
@[simp] theorem State.setPort_fault (s : State) (v : List Word) : (s.setPort v).fault = s.fault := rfl
@[simp] theorem State.setPort_guardDiag (s : State) (v : List Word) : (s.setPort v).guardDiag = s.guardDiag := rfl
@[simp] theorem State.setPort_render (s : State) (v : List Word) : (s.setPort v).render = s.render := rfl
@[simp] theorem State.setPort_out (s : State) (v : List Word) : (s.setPort v).out = s.out := rfl
@[simp] theorem State.setPort_port (s : State) (v : List Word) : (s.setPort v).port = v := rfl

end Sys2Proof.Machine
end

