-- ==== Sys2Proof/Laws/Memory.lean ====
section
/-! SUPPORT. The laws of the output buffer: a byte or word reads back what was written, every other one is as before,
and every write keeps the canonical form. -/

namespace Sys2Proof.Machine

/-! ### Bytes -/

@[simp] theorem Memory.readByte_nil (a : Nat) : Memory.readByte [] a = unlistedByte := rfl

theorem Memory.readByte_cons (y : Nat) (b : Byte) (m : Memory) (a : Nat) :
    Memory.readByte ((y, b) :: m) a = if y = a then b else Memory.readByte m a := rfl

/-- Below every listed address a byte reads as an unlisted one. -/
theorem Memory.readByte_below {m : Memory} {z : Nat} (h : ∀ c ∈ m, z < c.1) :
    Memory.readByte m z = unlistedByte := by
  induction m with
  | nil => rfl
  | cons d m ih =>
    obtain ⟨y, b⟩ := d
    have hy : z < y := h (y, b) (by simp)
    rw [Memory.readByte_cons, if_neg (by omega)]
    exact ih fun c hc => h c (by simp [hc])

theorem Memory.readByte_writeByte (m : Memory) (a x : Nat) (v : Byte) (h : Memory.wf m = true) :
    Memory.readByte (Memory.writeByte m a v) x = if x = a then v else Memory.readByte m x := by
  induction m with
  | nil =>
    unfold Memory.writeByte
    by_cases hx : x = a
    · by_cases hv : v = unlistedByte <;> simp [hv, hx, Memory.readByte_cons]
    · by_cases hv : v = unlistedByte <;> simp [hv, hx, Memory.readByte_cons, Ne.symm hx]
  | cons c m ih =>
    obtain ⟨y, b⟩ := c
    simp only [Memory.wf, Bool.and_eq_true, List.all_eq_true, decide_eq_true_eq] at h
    obtain ⟨⟨hb, hlt⟩, hm⟩ := h
    have gone : ∀ z, z ≤ y → Memory.readByte m z = unlistedByte := fun z hz =>
      Memory.readByte_below fun c hc => Nat.lt_of_le_of_lt hz (hlt c hc)
    unfold Memory.writeByte
    by_cases hay : a < y
    · rw [if_pos hay]
      by_cases hx : x = a
      · subst hx
        by_cases hv : v = unlistedByte
        · rw [if_pos hv, if_pos rfl, Memory.readByte_cons, if_neg (by omega), gone x (by omega), hv]
        · rw [if_neg hv, if_pos rfl, Memory.readByte_cons, if_pos rfl]
      · by_cases hv : v = unlistedByte
        · rw [if_pos hv, if_neg hx]
        · rw [if_neg hv, if_neg hx, Memory.readByte_cons, if_neg (Ne.symm hx)]
    · rw [if_neg hay]
      by_cases hya : a = y
      · subst hya
        rw [if_pos rfl]
        by_cases hx : x = a
        · subst hx
          by_cases hv : v = unlistedByte
          · rw [if_pos hv, if_pos rfl, gone x (Nat.le_refl x), hv]
          · rw [if_neg hv, if_pos rfl, Memory.readByte_cons, if_pos rfl]
        · by_cases hv : v = unlistedByte
          · rw [if_pos hv, if_neg hx, Memory.readByte_cons, if_neg (Ne.symm hx)]
          · rw [if_neg hv, if_neg hx, Memory.readByte_cons, Memory.readByte_cons, if_neg (Ne.symm hx),
              if_neg (Ne.symm hx)]
      · rw [if_neg hya, Memory.readByte_cons, Memory.readByte_cons, ih hm]
        by_cases hx : x = a
        · subst hx
          rw [if_neg (Ne.symm hya), if_pos rfl, if_pos rfl]
        · rw [if_neg hx, if_neg hx]

theorem Memory.all_writeByte {m : Memory} {y a : Nat} {v : Byte} (h : ∀ c ∈ m, y < c.1) (ha : y < a) :
    ∀ c ∈ m.writeByte a v, y < c.1 := by
  induction m with
  | nil =>
    unfold Memory.writeByte
    split <;> simp [ha]
  | cons d m ih =>
    have hd := h d (by simp)
    have hm : ∀ c ∈ m, y < c.1 := fun c hc => h c (by simp [hc])
    unfold Memory.writeByte
    split
    · split
      · exact h
      · simpa [ha, hd] using hm
    · split
      · split
        · exact hm
        · simpa [ha] using hm
      · simpa [hd] using ih hm

theorem Memory.wf_writeByte {m : Memory} (a : Nat) (v : Byte) (h : m.wf = true) : (m.writeByte a v).wf = true := by
  induction m with
  | nil =>
    unfold Memory.writeByte
    split <;> simp_all [Memory.wf]
  | cons d m ih =>
    obtain ⟨y, b⟩ := d
    have h0 := h
    simp only [Memory.wf, Bool.and_eq_true, List.all_eq_true, decide_eq_true_eq] at h
    obtain ⟨⟨hb, hlt⟩, hm⟩ := h
    unfold Memory.writeByte
    split
    · rename_i hay
      split
      · exact h0
      · rename_i hv
        simp only [Memory.wf, Bool.and_eq_true, List.all_eq_true, decide_eq_true_eq, List.mem_cons, forall_eq_or_imp]
        exact ⟨⟨by simpa using hv, hay, fun c hc => Nat.lt_trans hay (hlt c hc)⟩, ⟨hb, hlt⟩, hm⟩
    · split
      · rename_i hay
        split
        · exact hm
        · rename_i hv
          simp only [Memory.wf, Bool.and_eq_true, List.all_eq_true, decide_eq_true_eq]
          exact ⟨⟨by simpa using hv, fun c hc => hay ▸ hlt c hc⟩, hm⟩
      · simp only [Memory.wf, Bool.and_eq_true, List.all_eq_true, decide_eq_true_eq]
        exact ⟨⟨hb, Memory.all_writeByte hlt (by omega)⟩, ih hm⟩

/-! ### Words -/

theorem Memory.wf_writeWord {m : Memory} (a : Nat) (v : Word) (h : m.wf = true) : (m.writeWord a v).wf = true := by
  unfold Memory.writeWord
  exact Memory.wf_writeByte _ _ (Memory.wf_writeByte _ _ (Memory.wf_writeByte _ _ (Memory.wf_writeByte _ _ h)))

/-- Every byte outside a written word is as before. -/
theorem Memory.readByte_writeWord_frame {m : Memory} {a x : Nat} (v : Word) (h : m.wf = true)
    (hx : x < a ∨ a + 4 ≤ x) : (m.writeWord a v).readByte x = m.readByte x := by
  have h1 := Memory.wf_writeByte a (v.extractLsb' 0 8) h
  have h2 := Memory.wf_writeByte (a + 1) (v.extractLsb' 8 8) h1
  have h3 := Memory.wf_writeByte (a + 2) (v.extractLsb' 16 8) h2
  unfold Memory.writeWord
  rw [Memory.readByte_writeByte _ _ _ _ h3, if_neg (by omega), Memory.readByte_writeByte _ _ _ _ h2,
    if_neg (by omega), Memory.readByte_writeByte _ _ _ _ h1, if_neg (by omega),
    Memory.readByte_writeByte _ _ _ _ h, if_neg (by omega)]

/-- A word reads back what was written. -/
theorem Memory.readWord_writeWord_same {m : Memory} (a : Nat) (v : Word) (h : m.wf = true) :
    (m.writeWord a v).readWord a = v := by
  have h1 := Memory.wf_writeByte a (v.extractLsb' 0 8) h
  have h2 := Memory.wf_writeByte (a + 1) (v.extractLsb' 8 8) h1
  have h3 := Memory.wf_writeByte (a + 2) (v.extractLsb' 16 8) h2
  unfold Memory.readWord Memory.writeWord
  simp only [Memory.readByte_writeByte _ _ _ _ h3, Memory.readByte_writeByte _ _ _ _ h2,
    Memory.readByte_writeByte _ _ _ _ h1, Memory.readByte_writeByte _ _ _ _ h, Nat.add_right_inj, if_true,
    show ¬ (2 = 3) by decide, show ¬ (1 = 3) by decide, show ¬ (1 = 2) by decide, if_false,
    show ¬ (a = a + 3) by omega, show ¬ (a = a + 2) by omega, show ¬ (a = a + 1) by omega]
  ext i hi
  simp only [BitVec.getElem_append, BitVec.getElem_extractLsb']
  split
  · simp [BitVec.getLsbD_eq_getElem, hi]
  · split
    · simp only [show 8 + (i - 8) = i by omega, BitVec.getLsbD_eq_getElem hi]
    · split
      · simp only [show 16 + (i - 8 - 8) = i by omega, BitVec.getLsbD_eq_getElem hi]
      · simp only [show 24 + (i - 8 - 8 - 8) = i by omega, BitVec.getLsbD_eq_getElem hi]

/-- A word that shares no byte with the written one is as before. -/
theorem Memory.readWord_writeWord_other {m : Memory} {a x : Nat} (v : Word) (h : m.wf = true)
    (hx : x + 4 ≤ a ∨ a + 4 ≤ x) : (m.writeWord a v).readWord x = m.readWord x := by
  unfold Memory.readWord
  rw [Memory.readByte_writeWord_frame v h (by omega), Memory.readByte_writeWord_frame v h (by omega),
    Memory.readByte_writeWord_frame v h (by omega), Memory.readByte_writeWord_frame v h (by omega)]

/-! ### Words of the output buffer -/

/-- Two different words of the output buffer share no byte. -/
theorem outAddr_disjoint {c f c' f' : Nat} (hf : f < 2 ^ 32) (hf' : f' < 2 ^ 32) (h : ¬ (c = c' ∧ f = f')) :
    outAddr c f + 4 ≤ outAddr c' f' ∨ outAddr c' f' + 4 ≤ outAddr c f := by
  unfold outAddr
  rcases Nat.lt_trichotomy c c' with hc | hc | hc <;> omega

theorem State.memRead_memWrite_same (s : State) (c f : Nat) (v : Real32) (h : s.out.wf = true) :
    (s.memWrite c f v).memRead c f = v := Memory.readWord_writeWord_same _ _ h

theorem State.memRead_memWrite_other {s : State} {c f c' f' : Nat} (v : Real32) (h : s.out.wf = true)
    (hf : f < 2 ^ 32) (hf' : f' < 2 ^ 32) (hne : ¬ (c' = c ∧ f' = f)) :
    (s.memWrite c f v).memRead c' f' = s.memRead c' f' :=
  Memory.readWord_writeWord_other v h (outAddr_disjoint hf' hf hne)

/-- All that `MemWrite` does: the buffer changes, in the bytes of its word only, and stays canonical. -/
theorem State.memWrite_spec (s : State) (c f : Nat) (v : Real32) :
    ∃ o, s.memWrite c f v = s.setOut o ∧ (s.out.wf = true → o.wf = true ∧
      ∀ a, a < outAddr c f ∨ outAddr c f + 4 ≤ a → o.readByte a = s.out.readByte a) :=
  ⟨_, rfl, fun h => ⟨Memory.wf_writeWord _ _ h, fun _ ha => Memory.readByte_writeWord_frame v h ha⟩⟩

end Sys2Proof.Machine
end

