-- ==== Sys2Proof/Laws/Frames.lean ====
section
/-! SUPPORT. What each shared operation of the block can do, said once: the registers it leaves as they are, the bytes of
the output buffer it leaves as they are, and that the buffer stays canonical. Later proofs cite these instead of
unfolding the operation. -/

namespace Sys2Proof.Machine

/-! ### The two frames -/

/-- The registers no part of rendering writes are as before (10_state R50), but for the voice registers. -/
structure BlockKeeps (s t : State) : Prop where
  sampleRate : t.sampleRate = s.sampleRate
  envEn : t.envEn = s.envEn
  attackS : t.attackS = s.attackS
  releaseS : t.releaseS = s.releaseS
  prepared : t.prepared = s.prepared
  fault : t.fault = s.fault
  port : t.port = s.port

/-- Between two events the registers of a note are as before too (10_state R50). -/
structure SpanKeeps (s t : State) : Prop extends BlockKeeps s t where
  inc : t.inc = s.inc
  slope : t.slope = s.slope
  active : t.active = s.active
  freq : t.freq = s.freq
  peak : t.peak = s.peak

theorem BlockKeeps.refl (s : State) : BlockKeeps s s := ⟨rfl, rfl, rfl, rfl, rfl, rfl, rfl⟩

theorem BlockKeeps.trans {s t u : State} (h : BlockKeeps s t) (k : BlockKeeps t u) : BlockKeeps s u :=
  ⟨k.1.trans h.1, k.2.trans h.2, k.3.trans h.3, k.4.trans h.4, k.5.trans h.5, k.6.trans h.6, k.7.trans h.7⟩

theorem SpanKeeps.refl (s : State) : SpanKeeps s s := ⟨BlockKeeps.refl s, rfl, rfl, rfl, rfl, rfl⟩

theorem SpanKeeps.trans {s t u : State} (h : SpanKeeps s t) (k : SpanKeeps t u) : SpanKeeps s u :=
  ⟨h.1.trans k.1, k.2.trans h.2, k.3.trans h.3, k.4.trans h.4, k.5.trans h.5, k.6.trans h.6⟩

/-- A canonical buffer stays canonical, and the bytes that satisfy `p` are as before. -/
def OutKeeps (p : Nat → Prop) (s t : State) : Prop :=
  s.out.wf = true → t.out.wf = true ∧ ∀ a, p a → t.out.readByte a = s.out.readByte a

theorem OutKeeps.of_out_eq {p : Nat → Prop} {s t : State} (h : t.out = s.out) : OutKeeps p s t :=
  fun hw => ⟨h ▸ hw, fun _ _ => by rw [h]⟩

theorem OutKeeps.trans {p : Nat → Prop} {s t u : State} (h : OutKeeps p s t) (k : OutKeeps p t u) :
    OutKeeps p s u := fun hw =>
  ⟨(k (h hw).1).1, fun a ha => ((k (h hw).1).2 a ha).trans ((h hw).2 a ha)⟩

theorem OutKeeps.mono {p q : Nat → Prop} {s t : State} (h : OutKeeps p s t) (hq : ∀ a, q a → p a) :
    OutKeeps q s t := fun hw => ⟨(h hw).1, fun a ha => (h hw).2 a (hq a ha)⟩

theorem State.memWrite_keeps (s : State) (c f : Nat) (v : Real32) : SpanKeeps s (s.memWrite c f v) :=
  ⟨⟨rfl, rfl, rfl, rfl, rfl, rfl, rfl⟩, rfl, rfl, rfl, rfl, rfl⟩

theorem State.memWrite_out (s : State) (c f : Nat) (v : Real32) :
    OutKeeps (fun a => a < outAddr c f ∨ outAddr c f + 4 ≤ a) s (s.memWrite c f v) := fun hw =>
  ⟨Memory.wf_writeWord _ _ hw, fun _ ha => Memory.readByte_writeWord_frame v hw ha⟩

/-! ### The voice -/

/-- All that RenderOneSample changes: `PHASE` and `LEVEL` (42_voice R186). -/
theorem renderOneSample_spec (s : State) : ∃ p l, (renderOneSample s).2 = { s with phase := p, level := l } := by
  unfold renderOneSample renderSounding
  split
  · exact ⟨s.phase, s.level, rfl⟩
  · dsimp only [oscTick, envTick]
    split
    · exact ⟨_, _, rfl⟩
    · exact ⟨_, s.level, rfl⟩

/-- A silent RenderOneSample gives +0.0 and changes nothing (42_voice R186 (a)). -/
theorem renderOneSample_silent {s : State} (h : isSilent s = true) : renderOneSample s = (posZero, s) := by
  unfold renderOneSample
  rw [if_pos h]

theorem renderOneSample_keeps (s : State) : SpanKeeps s (renderOneSample s).2 := by
  obtain ⟨p, l, h⟩ := renderOneSample_spec s
  rw [h]
  exact ⟨⟨rfl, rfl, rfl, rfl, rfl, rfl, rfl⟩, rfl, rfl, rfl, rfl, rfl⟩

theorem renderOneSample_out (s : State) : (renderOneSample s).2.out = s.out := by
  obtain ⟨p, l, h⟩ := renderOneSample_spec s
  rw [h]

theorem renderOneSample_render (s : State) : (renderOneSample s).2.render = s.render := by
  obtain ⟨p, l, h⟩ := renderOneSample_spec s
  rw [h]

theorem renderOneSample_guardDiag (s : State) : (renderOneSample s).2.guardDiag = s.guardDiag := by
  obtain ⟨p, l, h⟩ := renderOneSample_spec s
  rw [h]

/-- All that VoiceNoteOn changes (42_voice R183). -/
theorem voiceNoteOn_spec (n v : Byte) (s : State) : voiceNoteOn n v s =
    { s with active := n, peak := noteAmplitude v, freq := noteFrequency n, slope := attackSlope s.sampleRate s.attackS,
             inc := oscIncrement (noteFrequency n) s.sampleRate } := rfl

/-- All that VoiceNoteOff changes (42_voice R184). -/
theorem voiceNoteOff_spec (n : Byte) (s : State) : voiceNoteOff n s =
    if n = s.active then { s with active := 0#8, slope := releaseSlope s.sampleRate s.releaseS } else s := rfl

/-- All that ApplyEvent changes (43_scheduler R210): the registers of a note. -/
theorem applyEvent_spec (e : EventRecord) (s : State) : ∃ a p f sl i,
    applyEvent e s = { s with active := a, peak := p, freq := f, slope := sl, inc := i } := by
  unfold applyEvent
  split
  · exact ⟨_, _, _, _, _, rfl⟩
  · rw [voiceNoteOff_spec]
    split
    · exact ⟨_, s.peak, s.freq, _, s.inc, rfl⟩
    · exact ⟨s.active, s.peak, s.freq, s.slope, s.inc, rfl⟩
  · exact ⟨s.active, s.peak, s.freq, s.slope, s.inc, rfl⟩

theorem applyEvent_keeps (e : EventRecord) (s : State) : BlockKeeps s (applyEvent e s) := by
  obtain ⟨a, p, f, sl, i, h⟩ := applyEvent_spec e s
  rw [h]
  exact ⟨rfl, rfl, rfl, rfl, rfl, rfl, rfl⟩

/-! ### The guard -/

theorem zeroSlice_spec (c len k : Nat) (s : State) : ∃ o, zeroSlice c len k s = s.setOut o := by
  induction len generalizing k s with
  | zero => exact ⟨s.out, rfl⟩
  | succ len ih =>
    obtain ⟨o, h⟩ := ih (k + 1) (s.memWrite c k posZero)
    exact ⟨o, by rw [zeroSlice, h]; rfl⟩

theorem zeroSlice_out (c len k : Nat) (s : State) : OutKeeps (outsideSlice c k len) s (zeroSlice c len k s) := by
  induction len generalizing k s with
  | zero => exact OutKeeps.of_out_eq rfl
  | succ len ih =>
    refine OutKeeps.trans ?_ ((ih (k + 1) _).mono fun a ha f h1 h2 => ha f (by omega) (by omega))
    exact (State.memWrite_out s c k posZero).mono fun a ha => ha k (Nat.le_refl k) (by omega)

/-- Every word of a zeroed slice is +0.0 (45_guard R242). -/
theorem zeroSlice_read (c len k : Nat) (s : State) (hw : s.out.wf = true) {f : Nat} (h1 : k ≤ f) (h2 : f < k + len) :
    (zeroSlice c len k s).memRead c f = posZero := by
  induction len generalizing k s with
  | zero => omega
  | succ len ih =>
    have hw' := Memory.wf_writeWord (outAddr c k) posZero hw
    by_cases hf : f = k
    · subst hf
      have hk := (zeroSlice_out c len (f + 1) (s.memWrite c f posZero) hw').2
      have hr : (zeroSlice c len (f + 1) (s.memWrite c f posZero)).memRead c f
          = (s.memWrite c f posZero).memRead c f := by
        unfold State.memRead Memory.readWord
        have out : ∀ i, i < 4 → outsideSlice c (f + 1) len (outAddr c f + i) := by
          intro i hi g hg _
          left
          unfold outAddr
          omega
        rw [hk _ (out 3 (by omega)), hk _ (out 2 (by omega)), hk _ (out 1 (by omega)),
          hk _ (by simpa using out 0 (by omega))]
      rw [zeroSlice, hr]
      exact State.memRead_memWrite_same s c f posZero hw
    · rw [zeroSlice]
      exact ih (k + 1) _ hw' (by omega) (by omega)

theorem flagClamp_spec (b : Bool) (s : State) : ∃ d, flagClamp b s = s.setGuardDiag d := by
  cases b
  · exact ⟨_, rfl⟩
  · exact ⟨s.guardDiag, rfl⟩

/-- All that the scan of a slice changes: the buffer and `GUARD_DIAG` (45_guard R241). -/
theorem guardScan_spec (c start len todo k : Nat) (b : Bool) (s : State) :
    ∃ o d, (guardScan c start len todo k b s).2 = (s.setOut o).setGuardDiag d := by
  induction todo generalizing k b s with
  | zero => exact ⟨s.out, s.guardDiag, rfl⟩
  | succ todo ih =>
    rw [guardScan]
    dsimp only
    split
    · obtain ⟨o, h⟩ := zeroSlice_spec c len start s
      exact ⟨o, _, by rw [h]⟩
    · split
      · obtain ⟨o, h⟩ := zeroSlice_spec c len start s
        exact ⟨o, _, by rw [h]⟩
      · split
        · obtain ⟨d, hd⟩ := flagClamp_spec b (s.memWrite c k (clampSample (s.memRead c k)))
          obtain ⟨o, d', h⟩ := ih (k + 1) true (flagClamp b (s.memWrite c k (clampSample (s.memRead c k))))
          exact ⟨o, d', by rw [h, hd]; rfl⟩
        · exact ih (k + 1) b s

theorem guardScan_out (c start len todo k : Nat) (b : Bool) (s : State) (hk : start ≤ k) (ht : k + todo ≤ start + len) :
    OutKeeps (outsideSlice c start len) s (guardScan c start len todo k b s).2 := by
  induction todo generalizing k b s with
  | zero => exact OutKeeps.of_out_eq rfl
  | succ todo ih =>
    rw [guardScan]
    dsimp only
    split
    · exact (zeroSlice_out c len start s).trans (OutKeeps.of_out_eq rfl)
    · split
      · exact (zeroSlice_out c len start s).trans (OutKeeps.of_out_eq rfl)
      · split
        · obtain ⟨d, hd⟩ := flagClamp_spec b (s.memWrite c k (clampSample (s.memRead c k)))
          refine OutKeeps.trans ?_ (ih (k + 1) true _ (by omega) (by omega))
          rw [hd]
          refine OutKeeps.trans ((State.memWrite_out s c k (clampSample (s.memRead c k))).mono fun a ha =>
            ha k hk (by omega)) ?_
          exact OutKeeps.of_out_eq rfl
        · exact ih (k + 1) b s (by omega) (by omega)

/-- All that GuardSlice changes: the buffer, `GUARD_DIAG`, and `SLICE_CLAMPED` (45_guard R241). -/
theorem guardSlice_spec (c start len : Nat) (s : State) :
    ∃ o d b, guardSlice c start len s = ((s.setOut o).setGuardDiag d).setSliceClamped b := by
  obtain ⟨o, d, h⟩ := guardScan_spec c start len len start false s
  exact ⟨o, d, _, by unfold guardSlice; dsimp only; rw [h]⟩

theorem guardSlice_keeps (c start len : Nat) (s : State) : SpanKeeps s (guardSlice c start len s) := by
  obtain ⟨o, d, b, h⟩ := guardSlice_spec c start len s
  rw [h]
  exact ⟨⟨rfl, rfl, rfl, rfl, rfl, rfl, rfl⟩, rfl, rfl, rfl, rfl, rfl⟩

theorem guardSlice_phase_level (c start len : Nat) (s : State) :
    (guardSlice c start len s).phase = s.phase ∧ (guardSlice c start len s).level = s.level := by
  obtain ⟨o, d, b, h⟩ := guardSlice_spec c start len s
  rw [h]
  exact ⟨rfl, rfl⟩

theorem guardSlice_out (c start len : Nat) (s : State) :
    OutKeeps (outsideSlice c start len) s (guardSlice c start len s) := by
  have h := guardScan_out c start len len start false s (Nat.le_refl _) (Nat.le_refl _)
  exact h.trans (OutKeeps.of_out_eq rfl)

/-! ### The renderer -/

theorem writeChannels_spec (channels f : Nat) (v : Real32) (s : State) :
    ∃ o, writeChannels channels f v s = s.setOut o := by
  induction channels with
  | zero => exact ⟨s.out, rfl⟩
  | succ c ih =>
    obtain ⟨o, h⟩ := ih
    exact ⟨_, by rw [writeChannels, h]; rfl⟩

theorem writeChannels_out (channels f : Nat) (v : Real32) (s : State) :
    OutKeeps (fun a => ∀ c, c < channels → a < outAddr c f ∨ outAddr c f + 4 ≤ a) s (writeChannels channels f v s) := by
  induction channels with
  | zero => exact OutKeeps.of_out_eq rfl
  | succ c ih =>
    rw [writeChannels]
    refine OutKeeps.trans (ih.mono fun a ha d hd => ha d (by omega)) ?_
    exact (State.memWrite_out _ c f v).mono fun a ha => ha c (by omega)

theorem writeChannels_keeps (channels f : Nat) (v : Real32) (s : State) :
    SpanKeeps s (writeChannels channels f v s) := by
  obtain ⟨o, h⟩ := writeChannels_spec channels f v s
  rw [h]
  exact ⟨⟨rfl, rfl, rfl, rfl, rfl, rfl, rfl⟩, rfl, rfl, rfl, rfl, rfl⟩

/-- Byte address `a` belongs to no word `(c, g)` with c < `channels` and g in `[start, start + len)`. -/
def outsideSpan (channels start len a : Nat) : Prop :=
  ∀ c f, c < channels → start ≤ f → f < start + len → a < outAddr c f ∨ outAddr c f + 4 ≤ a

theorem renderFrames_keeps (channels len f : Nat) (s : State) : SpanKeeps s (renderFrames channels len f s) := by
  induction len generalizing f s with
  | zero => exact SpanKeeps.refl s
  | succ len ih =>
    rw [renderFrames]
    exact ((renderOneSample_keeps s).trans (writeChannels_keeps channels f _ _)).trans (ih (f + 1) _)

theorem renderFrames_out (channels len f : Nat) (s : State) :
    OutKeeps (outsideSpan channels f len) s (renderFrames channels len f s) := by
  induction len generalizing f s with
  | zero => exact OutKeeps.of_out_eq rfl
  | succ len ih =>
    rw [renderFrames]
    refine OutKeeps.trans ?_ ((ih (f + 1) _).mono fun a ha c g hc h1 h2 => ha c g hc (by omega) (by omega))
    refine OutKeeps.trans (OutKeeps.of_out_eq (renderOneSample_out s)) ?_
    exact (writeChannels_out channels f _ _).mono fun a ha c hc => ha c f hc (by omega) (by omega)

theorem guardChannels_keeps (start len channels : Nat) (s : State) :
    SpanKeeps s (guardChannels start len channels s) := by
  induction channels with
  | zero => exact SpanKeeps.refl s
  | succ c ih => exact ih.trans (guardSlice_keeps c start len _)

theorem guardChannels_out (start len channels : Nat) (s : State) :
    OutKeeps (outsideSpan channels start len) s (guardChannels start len channels s) := by
  induction channels with
  | zero => exact OutKeeps.of_out_eq rfl
  | succ c ih =>
    rw [guardChannels]
    refine OutKeeps.trans (ih.mono fun a ha d f hd => ha d f (by omega)) ?_
    exact (guardSlice_out c start len _).mono fun a ha f h1 h2 => ha c f (by omega) h1 h2

/-- RenderSpan writes no register of a note or of the configuration (10_state R50). -/
theorem renderSpan_keeps (channels start len : Nat) (s : State) : SpanKeeps s (renderSpan channels start len s) :=
  (renderFrames_keeps channels len start s).trans (guardChannels_keeps start len channels _)

/-- RenderSpan writes only the words of its span (44_renderer R231). -/
theorem renderSpan_out (channels start len : Nat) (s : State) :
    OutKeeps (outsideSpan channels start len) s (renderSpan channels start len s) :=
  (renderFrames_out channels len start s).trans (guardChannels_out start len channels _)

/-! ### The scheduler -/

theorem advanceTo_keeps (t : Word) (s : State) : SpanKeeps s (advanceTo t s) := by
  unfold advanceTo
  split
  · exact (renderSpan_keeps _ _ _ s).trans ⟨⟨rfl, rfl, rfl, rfl, rfl, rfl, rfl⟩, rfl, rfl, rfl, rfl, rfl⟩
  · exact SpanKeeps.refl s

theorem scheduleEvent_keeps (s : State) (e : EventRecord) : BlockKeeps s (scheduleEvent s e) :=
  ((advanceTo_keeps e.ofs s).1.trans (applyEvent_keeps e _)).trans ⟨rfl, rfl, rfl, rfl, rfl, rfl, rfl⟩

/-- ScheduleBlock writes only what 10_state R50 lets a RENDER_BLOCK write. -/
theorem scheduleBlock_keeps (ch : BitVec 2) (n : Word) (evts : List EventRecord) (s : State) :
    BlockKeeps s (scheduleBlock ch n evts s) := by
  unfold scheduleBlock finishBlock
  have h0 : BlockKeeps s (s.beginRender ch n evts) := ⟨rfl, rfl, rfl, rfl, rfl, rfl, rfl⟩
  have fold : ∀ (es : List EventRecord) (u : State), BlockKeeps u (es.foldl scheduleEvent u) := by
    intro es
    induction es with
    | nil => exact BlockKeeps.refl
    | cons e es ih => exact fun u => (scheduleEvent_keeps u e).trans (ih _)
  exact ((h0.trans (fold evts _)).trans (advanceTo_keeps n _).1).trans ⟨rfl, rfl, rfl, rfl, rfl, rfl, rfl⟩

/-- After ScheduleBlock no transaction-local state is left (10_state R47). -/
theorem scheduleBlock_render (ch : BitVec 2) (n : Word) (evts : List EventRecord) (s : State) :
    (scheduleBlock ch n evts s).render = none := rfl

/-! ### The transactions -/

/-- All that a transaction fault changes: `FAULT` (60_exceptions R272). -/
theorem raiseFault_spec (k : Cause) (s : State) : raiseFault k s = { s with fault := recordFault k s.fault } := rfl

/-- RENDER_BLOCK either takes the fault of its first failing check or runs the block (46_host R253). -/
theorem execRenderBlock_cases (ch : BitVec 2) (n : Word) (evts : List EventRecord) (s : State) :
    (∃ k, renderCheck maxFrames maxEvents s.prepared ch n evts = some k ∧
      execRenderBlock ch n evts s = .next (raiseFault k s)) ∨
    (renderCheck maxFrames maxEvents s.prepared ch n evts = none ∧
      execRenderBlock ch n evts s = .next (scheduleBlock ch n evts s)) := by
  unfold execRenderBlock
  cases h : renderCheck maxFrames maxEvents s.prepared ch n evts with
  | some k => exact .inl ⟨k, rfl, rfl⟩
  | none => exact .inr ⟨rfl, rfl⟩

/-- MAX_FRAMES is at least 1 (00_scope R7). -/
theorem one_le_maxFrames : 1 ≤ maxFrames := by
  unfold maxFrames
  omega

/-- MAX_FRAMES is at most 2^32 - 1 (00_scope R7). -/
theorem maxFrames_lt : maxFrames < 2 ^ 32 := by
  unfold maxFrames
  have := Nat.mod_lt Config.rawMaxFrames (show 0 < 2 ^ 32 - 1 by decide)
  omega

/-- MAX_EVENTS is at most 2^32 - 1 (00_scope R7). -/
theorem maxEvents_lt : maxEvents < 2 ^ 32 := Nat.mod_lt _ (by decide)

/-! ### The voice's samples -/

@[simp] theorem voiceAfter_zero (s : State) : voiceAfter 0 s = s := rfl

theorem voiceAfter_succ (j : Nat) (s : State) : voiceAfter (j + 1) s = voiceAfter j (renderOneSample s).2 := rfl

theorem voiceAfter_succ' (j : Nat) (s : State) : voiceAfter (j + 1) s = (renderOneSample (voiceAfter j s)).2 :=
  Function.iterate_succ_apply' _ j s

theorem sampleAt_succ (j : Nat) (s : State) : sampleAt (j + 1) s = sampleAt j (renderOneSample s).2 := rfl

end Sys2Proof.Machine
end

