-- ==== Sys2Proof/Laws/PerInstr.lean ====
section
/-! SUPPORT. Statements made for every instruction, one lemma per constructor. -/

namespace Sys2Proof.Laws

/-- The mask of the instruction's row of spec/opcode_table.json, over its header word W0 or its message word WB. -/
def rowMask : Instr → Word
  | .prepare _ => 0x000000FF#32
  | .configure _ _ _ => 0x000000FF#32
  | .renderBlock _ _ _ => 0x000000FF#32
  | .reservedCmd00 => 0x000000FF#32
  | .reservedCmd04To07 _ => 0x000000FC#32
  | .reservedCmd08To0F _ => 0x000000F8#32
  | .reservedCmd10To1F _ => 0x000000F0#32
  | .reservedCmd20To3F _ => 0x000000E0#32
  | .reservedCmd40To7F _ => 0x000000C0#32
  | .reservedCmd80ToFF _ => 0x00000080#32
  | .noteOff _ _ _ => 0x00F00000#32
  | .noteOnV0 _ _ => 0x00F000FF#32
  | .noteOn _ _ _ => 0x00F00000#32
  | .ignoredData _ _ _ => 0x00800000#32
  | .ignoredA _ _ _ => 0x00F00000#32
  | .ignoredB _ _ _ => 0x00F00000#32
  | .ignoredC _ _ _ => 0x00F00000#32
  | .ignoredD _ _ _ => 0x00F00000#32
  | .ignoredE _ _ _ => 0x00F00000#32
  | .ignoredF _ _ _ => 0x00F00000#32

/-- The match value of the instruction's row of spec/opcode_table.json. -/
def rowMatch : Instr → Word
  | .prepare _ => 0x00000001#32
  | .configure _ _ _ => 0x00000002#32
  | .renderBlock _ _ _ => 0x00000003#32
  | .reservedCmd00 => 0x00000000#32
  | .reservedCmd04To07 _ => 0x00000004#32
  | .reservedCmd08To0F _ => 0x00000008#32
  | .reservedCmd10To1F _ => 0x00000010#32
  | .reservedCmd20To3F _ => 0x00000020#32
  | .reservedCmd40To7F _ => 0x00000040#32
  | .reservedCmd80ToFF _ => 0x00000080#32
  | .noteOff _ _ _ => 0x00800000#32
  | .noteOnV0 _ _ => 0x00900000#32
  | .noteOn _ _ _ => 0x00900000#32
  | .ignoredData _ _ _ => 0x00000000#32
  | .ignoredA _ _ _ => 0x00A00000#32
  | .ignoredB _ _ _ => 0x00B00000#32
  | .ignoredC _ _ _ => 0x00C00000#32
  | .ignoredD _ _ _ => 0x00D00000#32
  | .ignoredE _ _ _ => 0x00E00000#32
  | .ignoredF _ _ _ => 0x00F00000#32

/-- The first encoded word of an instruction matches its own row of spec/opcode_table.json. -/
def TableRow.Statement (i : Instr) : Prop := (encode i).headD 0#32 &&& rowMask i = rowMatch i

/-- The bits of a message word, from the top: the reserved byte, the status byte, data1, data2. -/
theorem messageWord_getLsbD (st d1 d2 : Byte) (i : Nat) : (messageWord st d1 d2).getLsbD i =
    if i < 8 then d2.getLsbD i else if i < 16 then d1.getLsbD (i - 8) else st.getLsbD (i - 16) := by
  unfold messageWord
  simp only [BitVec.getLsbD_append]
  by_cases h1 : i < 8
  · simp [h1, show i < 24 by omega]
  · by_cases h2 : i < 16
    · simp [h1, h2, show i < 24 by omega, show i - 8 < 8 by omega]
    · by_cases h3 : i < 24
      · simp [h1, h2, h3, show ¬ i - 8 < 8 by omega, show i - 8 - 8 = i - 16 by omega]
      · simp only [h1, h2, h3, if_false]
        simp [BitVec.getLsbD_of_ge st (i - 16) (by omega)]

/-- A mask that selects only status bits sees only the status byte of a message word. -/
theorem messageWord_status (st d1 d2 : Byte) (m : Byte) :
    messageWord st d1 d2 &&& (0#8 ++ m ++ 0#16 : Word) = (0#8 ++ (st &&& m) ++ 0#16 : Word) := by
  apply BitVec.eq_of_getLsbD_eq
  intro i _
  simp only [BitVec.getLsbD_and, messageWord_getLsbD, BitVec.getLsbD_append]
  by_cases h1 : i < 16
  · simp [h1]
  · simp only [h1, if_false, show ¬ i < 8 by omega]
    by_cases h2 : i - 16 < 8
    · simp [h2]
    · simp [h2]

/-- The same for a note-on of velocity 0, whose row also masks data2. -/
theorem messageWord_status_zero (st d1 : Byte) (m : Byte) :
    messageWord st d1 0#8 &&& (0#8 ++ m ++ 0x00FF#16 : Word) = (0#8 ++ (st &&& m) ++ 0#16 : Word) := by
  apply BitVec.eq_of_getLsbD_eq
  intro i _
  simp only [BitVec.getLsbD_and, messageWord_getLsbD, BitVec.getLsbD_append]
  by_cases h1 : i < 16
  · simp only [h1, if_true]
    by_cases h0 : i < 8
    · simp [h0]
    · simp only [h0, if_false]
      have high : ∀ k < 16, 8 ≤ k → (0x00FF#16).getLsbD k = false := by decide
      simp [high i h1 (by omega)]
  · simp only [h1, if_false, show ¬ i < 8 by omega]
    by_cases h2 : i - 16 < 8
    · simp [h2]
    · simp [h2]

theorem TableRow.prepare (sr : Real32) : TableRow.Statement (.prepare sr) := by
  unfold TableRow.Statement
  simp only [encode, List.headD_cons, rowMask, rowMatch]
  decide

theorem TableRow.configure (e : Bool) (atk rel : Real32) : TableRow.Statement (.configure e atk rel) := by
  unfold TableRow.Statement
  simp only [encode, List.headD_cons, rowMask, rowMatch]
  revert e
  decide

theorem TableRow.renderBlock (ch : BitVec 2) (n : Word) (evts : List EventRecord) :
    TableRow.Statement (.renderBlock ch n evts) := by
  unfold TableRow.Statement
  simp only [encode, List.headD_cons, rowMask, rowMatch]
  revert ch
  decide

theorem TableRow.reservedCmd00 : TableRow.Statement .reservedCmd00 := by
  unfold TableRow.Statement
  decide

theorem TableRow.reservedCmd04To07 (low : BitVec 2) : TableRow.Statement (.reservedCmd04To07 low) := by
  unfold TableRow.Statement
  revert low
  decide

theorem TableRow.reservedCmd08To0F (low : BitVec 3) : TableRow.Statement (.reservedCmd08To0F low) := by
  unfold TableRow.Statement
  revert low
  decide

theorem TableRow.reservedCmd10To1F (low : BitVec 4) : TableRow.Statement (.reservedCmd10To1F low) := by
  unfold TableRow.Statement
  revert low
  decide

theorem TableRow.reservedCmd20To3F (low : BitVec 5) : TableRow.Statement (.reservedCmd20To3F low) := by
  unfold TableRow.Statement
  revert low
  decide

theorem TableRow.reservedCmd40To7F (low : BitVec 6) : TableRow.Statement (.reservedCmd40To7F low) := by
  unfold TableRow.Statement
  revert low
  decide

theorem TableRow.reservedCmd80ToFF (low : BitVec 7) : TableRow.Statement (.reservedCmd80ToFF low) := by
  unfold TableRow.Statement
  revert low
  decide

theorem TableRow.noteOff (chan : BitVec 4) (note vel : Byte) : TableRow.Statement (.noteOff chan note vel) := by
  refine (messageWord_status (0x8#4 ++ chan) note vel 0xF0#8).trans ?_
  simp only [rowMatch]
  revert chan
  decide

theorem TableRow.noteOnV0 (chan : BitVec 4) (note : Byte) : TableRow.Statement (.noteOnV0 chan note) := by
  refine (messageWord_status_zero (0x9#4 ++ chan) note 0xF0#8).trans ?_
  simp only [rowMatch]
  revert chan
  decide

theorem TableRow.noteOn (chan : BitVec 4) (note vel : Byte) : TableRow.Statement (.noteOn chan note vel) := by
  refine (messageWord_status (0x9#4 ++ chan) note vel 0xF0#8).trans ?_
  simp only [rowMatch]
  revert chan
  decide

theorem TableRow.ignoredData (low : BitVec 7) (d1 d2 : Byte) : TableRow.Statement (.ignoredData low d1 d2) := by
  refine (messageWord_status (0#1 ++ low) d1 d2 0x80#8).trans ?_
  simp only [rowMatch]
  revert low
  decide

theorem TableRow.ignoredA (low : BitVec 4) (d1 d2 : Byte) : TableRow.Statement (.ignoredA low d1 d2) := by
  refine (messageWord_status (0xA#4 ++ low) d1 d2 0xF0#8).trans ?_
  simp only [rowMatch]
  revert low
  decide

theorem TableRow.ignoredB (low : BitVec 4) (d1 d2 : Byte) : TableRow.Statement (.ignoredB low d1 d2) := by
  refine (messageWord_status (0xB#4 ++ low) d1 d2 0xF0#8).trans ?_
  simp only [rowMatch]
  revert low
  decide

theorem TableRow.ignoredC (low : BitVec 4) (d1 d2 : Byte) : TableRow.Statement (.ignoredC low d1 d2) := by
  refine (messageWord_status (0xC#4 ++ low) d1 d2 0xF0#8).trans ?_
  simp only [rowMatch]
  revert low
  decide

theorem TableRow.ignoredD (low : BitVec 4) (d1 d2 : Byte) : TableRow.Statement (.ignoredD low d1 d2) := by
  refine (messageWord_status (0xD#4 ++ low) d1 d2 0xF0#8).trans ?_
  simp only [rowMatch]
  revert low
  decide

theorem TableRow.ignoredE (low : BitVec 4) (d1 d2 : Byte) : TableRow.Statement (.ignoredE low d1 d2) := by
  refine (messageWord_status (0xE#4 ++ low) d1 d2 0xF0#8).trans ?_
  simp only [rowMatch]
  revert low
  decide

theorem TableRow.ignoredF (low : BitVec 4) (d1 d2 : Byte) : TableRow.Statement (.ignoredF low d1 d2) := by
  refine (messageWord_status (0xF#4 ++ low) d1 d2 0xF0#8).trans ?_
  simp only [rowMatch]
  revert low
  decide

end Sys2Proof.Laws
end

