-- ==== Sys2Proof/Laws/Sink.lean ====
section
/-! SUPPORT. What the sink's rate conversion can do (spec/20_memory.md R87, spec/91_not_in_source.md N14), said once. -/

namespace Sys2Proof.Machine

/-- An integral rate below 2^32 is found as itself. -/
theorem integralRate_of_integer {x : Real32} {k : Nat} (hf : isFinite x = true) (hs : signBit x = false)
    (hk : k < 2 ^ 32) (hm : magnitude x = k * 2 ^ 149) : integralRate x = some (BitVec.ofNat 32 k) := by
  have hpos : 0 < 2 ^ 149 := Nat.two_pow_pos _
  have hmod : k * 2 ^ 149 % 2 ^ 149 = 0 := Nat.mul_mod_left ..
  have hdiv : k * 2 ^ 149 / 2 ^ 149 = k := Nat.mul_div_cancel _ hpos
  rw [integralRate, hf, hs, hm, hmod, hdiv]
  exact if_pos (by simpa using hk)

/-- The conversion gives an integral rate itself and leaves every other rate to the implementation. -/
theorem sinkRate_cases (x : Real32) :
    (∃ k, integralRate x = some k ∧ sinkRate x = k) ∨
    (integralRate x = none ∧ sinkRate x = Config.rawSinkRate x) := by
  cases h : integralRate x with
  | some k => exact .inl ⟨k, rfl, by rw [sinkRate, h]; rfl⟩
  | none => exact .inr ⟨rfl, by rw [sinkRate, h]; rfl⟩

end Sys2Proof.Machine
end

