-- ==== Sys2Proof/Tests/Slice0.lean ====
section
/-! SUPPORT. The model's own tests. Expected values are the spec's: the encodings of spec/30_encoding.md, the opcode table,
and the vectors of spec/95_test_vectors.md (named in the comments), whose values do not depend on SIN or EXP2 unless a
law of spec/00_scope.md R16 fixes them. After them, one witness for every statement that has hypotheses. -/

namespace Sys2Proof.Tests
open Sys2Proof Sys2Proof.Machine

/-! ### WellFormed: an ill-formed term for each check -/

theorem test_wf_refuses_velocity_zero : (Instr.noteOn 0#4 60#8 0#8).wellFormed = false := by decide
theorem test_wf_accepts_velocity_255 : (Instr.noteOn 0#4 60#8 255#8).wellFormed = true := by decide
theorem test_wf_refuses_uncountable_list (evts : List EventRecord) (h : evts.length = 2 ^ 32) :
    (Instr.renderBlock 1#2 4#32 evts).wellFormed = false := by
  simp [Instr.wellFormed, eventCountFits, h]
theorem test_wf_accepts_short_list : (Instr.renderBlock 1#2 4#32 [⟨0#32, 0x90#8, 69#8, 127#8⟩]).wellFormed = true := by
  decide

/-! ### Decode: one word of every row, written out from the spec's encoding -/

-- 30_encoding R119; V-ENC-10: W0[31:8] is ignored
theorem test_decode_prepare : decodeTransaction [0xFFFFFF01#32, 0x473B8000#32] = .ok (.prepare 0x473B8000#32, []) := by
  rfl
-- V-ENC-13: W0[9] is ignored, E is W0[8]
theorem test_decode_configure : decodeTransaction [0x00000302#32, 0x3C23D70A#32, 0x3F000000#32, 7#32]
    = .ok (.configure true 0x3C23D70A#32 0x3F000000#32, [7#32]) := by rfl
-- V-ENC-12
theorem test_decode_render : decodeTransaction [0x00000103#32, 4#32, 1#32, 0#32, 0x0090457F#32]
    = .ok (.renderBlock 1#2 4#32 [⟨0#32, 0x90#8, 0x45#8, 0x7F#8⟩], []) := by rfl
theorem test_decode_render_waits_for_events :
    decodeTransaction [0x00000103#32, 4#32, 1#32, 0#32] = .error (.incomplete 5 4) := by rfl
-- 30_encoding R101, opcode table rows RESERVED_CMD_*; V-ENC-11: one word is consumed
theorem test_decode_reserved_00 : decodeTransaction [0xABCDEF00#32, 9#32] = .ok (.reservedCmd00, [9#32]) := by rfl
theorem test_decode_reserved_04 : decodeTransaction [0x00000004#32] = .ok (.reservedCmd04To07 0#2, []) := by rfl
theorem test_decode_reserved_07 : decodeTransaction [0x00000007#32] = .ok (.reservedCmd04To07 3#2, []) := by rfl
theorem test_decode_reserved_0D : decodeTransaction [0x0000000D#32] = .ok (.reservedCmd08To0F 5#3, []) := by rfl
theorem test_decode_reserved_1F : decodeTransaction [0x0000001F#32] = .ok (.reservedCmd10To1F 15#4, []) := by rfl
theorem test_decode_reserved_21 : decodeTransaction [0x00000021#32] = .ok (.reservedCmd20To3F 1#5, []) := by rfl
theorem test_decode_reserved_42 : decodeTransaction [0x00000042#32] = .ok (.reservedCmd40To7F 2#6, []) := by rfl
theorem test_decode_reserved_FF : decodeTransaction [0x000000FF#32] = .ok (.reservedCmd80ToFF 127#7, []) := by rfl
-- V-ENC-3, V-ENC-2, V-ENC-1, V-ENC-4, V-ENC-9, V-ENC-6, V-ENC-7, V-ENC-5
theorem test_decode_note_off : decodeEvent 0x803C7F#24 = .noteOff 0#4 60#8 0x7F#8 := by decide
theorem test_decode_note_on_v0 : decodeEvent 0x904500#24 = .noteOnV0 0#4 69#8 := by decide
theorem test_decode_note_on : decodeEvent 0x903C64#24 = .noteOn 0#4 60#8 100#8 := by decide
theorem test_decode_note_on_channel : decodeEvent 0x9F3C64#24 = .noteOn 15#4 60#8 100#8 := by decide
theorem test_decode_note_on_unmasked : decodeEvent 0x90FFFF#24 = .noteOn 0#4 255#8 255#8 := by decide
theorem test_decode_data : decodeEvent 0x7F3C64#24 = .ignoredData 0x7F#7 60#8 100#8 := by decide
theorem test_decode_A : decodeEvent 0xA03C10#24 = .ignoredA 0#4 0x3C#8 0x10#8 := by decide
theorem test_decode_B : decodeEvent 0xB00740#24 = .ignoredB 0#4 7#8 0x40#8 := by decide
theorem test_decode_C : decodeEvent 0xC00500#24 = .ignoredC 0#4 5#8 0#8 := by decide
theorem test_decode_D : decodeEvent 0xD04000#24 = .ignoredD 0#4 0x40#8 0#8 := by decide
theorem test_decode_E : decodeEvent 0xE00040#24 = .ignoredE 0#4 0#8 0x40#8 := by decide
theorem test_decode_F : decodeEvent 0xF00000#24 = .ignoredF 0#4 0#8 0#8 := by decide
-- V-ENC-8: WB[31:24] is ignored
theorem test_decode_record_reserved : decodeRecord 5#32 0xFF903C64#32 = ⟨5#32, 0x90#8, 60#8, 100#8⟩ := by decide
-- the opcode table's own numbering of bits
theorem test_table_prepare : decodeTableWord 32 0x00000001 = some (.prepare 0#32) := by rfl
theorem test_table_render : decodeTableWord 8 0x03 = some (.renderBlock 0#2 0#32 []) := by rfl
theorem test_table_note_on : decodeTableWord 24 0x90457F = some (.noteOn 0#4 69#8 127#8) := by rfl
-- 20_memory R75: little-endian
theorem test_bytes_little_endian : wordsOfBytes [0x01#8, 0x02#8, 0x03#8, 0x04#8, 0x05#8] = ([0x04030201#32], [0x05#8]) := by
  decide
-- 30_encoding R117 to R119
theorem test_assemble_prepare : assemble "PREPARE 44100 ; comment".toList = some [0x00000001#32, 0x472C4400#32] := by
  decide

/-! ### Arithmetic -/

-- 00_scope R8: 0.01
theorem test_ten_ms : roundRatio false (2 ^ 149) 100 = 0x3C23D70A#32 := by decide
-- 00_scope R11
theorem test_fdiv_by_zero : fdiv one posZero = 0x7F800000#32 := by decide
-- V-ENV-6: 0.999 + 0x3B088889
theorem test_fadd : fadd 0x3F7FBE77#32 0x3B088889#32 = 0x3F802380#32 := by decide
-- subnormals are kept: the least subnormal halved ties to even
theorem test_fmul_subnormal : fmul 0x00000003#32 half = 0x00000002#32 := by decide

/-! ### Oscillator, envelope, voice -/

-- V-OSC-1, V-OSC-2
theorem test_increment_48k : oscIncrement a4Hz 0x473B8000#32 = 0x3D6BE9A5#32 := by decide
theorem test_increment_44k1 : oscIncrement a4Hz 0x472C4400#32 = 0x3D80634A#32 := by decide
-- V-OSC-3: a sum equal to TWO_PI is not wrapped; V-OSC-4; V-OSC-5: one subtraction only
theorem test_advance_to_two_pi : oscAdvance 0x40B90FDB#32 half = 0x40C90FDB#32 := by decide
theorem test_advance_wraps : oscAdvance 0x40C80000#32 0x3D4CCCCD#32 = 0x3C89BF00#32 := by decide
theorem test_advance_once : oscAdvance one 0x40E00000#32 = 0x3FDBC094#32 := by decide
-- V-OSC-6, V-OSC-7
theorem test_advance_infinite : oscAdvance posZero 0x7F800000#32 = 0x7F800000#32 := by decide
theorem test_advance_negative : oscAdvance posZero (oscIncrement a4Hz 0xC73B8000#32) = 0xBD6BE9A5#32 := by decide
-- V-ENV-1, V-ENV-2, V-ENV-8, V-ENV-9
theorem test_attack_slope : attackSlope 0x473B8000#32 0x3C23D70A#32 = 0x3B088889#32 := by decide
theorem test_release_slope : releaseSlope 0x473B8000#32 0x3C23D70A#32 = 0xBB088889#32 := by decide
theorem test_attack_zero : attackSlope 0x473B8000#32 posZero = 0x7F800000#32 := by decide
theorem test_release_zero : releaseSlope 0x473B8000#32 posZero = 0xFF800000#32 := by decide
-- V-ENV-5 tick 1, V-ENV-10, V-ENV-14
theorem test_env_tick_down : clamp01 (fadd one 0xBB088889#32) = 0x3F7F7777#32 := by decide
theorem test_env_retrigger : clamp01 (fadd half 0x3B088889#32) = 0x3F008889#32 := by decide
theorem test_env_floor : clamp01 (fadd posZero 0xBB088889#32) = posZero := by decide
-- V-VOI-3 and E5
theorem test_amplitude_full : noteAmplitude 127#8 = 0x3F000000#32 := by decide
theorem test_amplitude_255 : noteAmplitude 255#8 = 0x3F808102#32 := by decide
-- V-VOI-2 rows that EXP2's law (e) fixes
theorem test_frequency_57 : noteFrequency 57#8 = 0x435C0000#32 := by rfl
theorem test_frequency_69 : noteFrequency 69#8 = 0x43DC0000#32 := by rfl

/-! ### Transactions and events -/

/-- The state right after `PREPARE 48000` from reset. -/
def fresh : State := { State.reset with sampleRate := 0x473B8000#32, prepared := true }

-- 46_host R251
theorem test_prepare : exec (.prepare 0x473B8000#32) { State.reset with active := 5#8, guardDiag := 1#32, fault := 0x0204#16 }
    = .next { fresh with fault := 0x0204#16 } := by rfl
-- V-HOST-10
theorem test_configure : exec (.configure false 0x3CA3D70A#32 0x3F000000#32) State.reset
    = .next { State.reset with envEn := false, attackS := 0x3CA3D70A#32, releaseS := 0x3F000000#32 } := by rfl
-- V-HOST-1 and V-HOST-2: NOT_PREPARED before BAD_CHANNELS
theorem test_render_not_prepared : exec (.renderBlock 3#2 4#32 []) State.reset
    = .next { State.reset with fault := 0x0204#16 } := by rfl
-- V-HOST-3
theorem test_render_bad_channels : exec (.renderBlock 3#2 4#32 []) fresh = .next { fresh with fault := 0x0308#16 } := by
  rfl
-- V-HOST-5, V-HOST-6 with the limits as arguments
theorem test_check_frames : renderCheck 4096 64 true 1#2 4097#32 [] = some .framesRange := by decide
-- V-SCH-7, V-SCH-8, V-SCH-13
theorem test_check_offset : checkEvents 4#32 none [⟨4#32, 0x90#8, 60#8, 1#8⟩] = some .evtOffset := by decide
theorem test_check_order : checkEvents 4#32 none
    [⟨2#32, 0x90#8, 60#8, 1#8⟩, ⟨1#32, 0x90#8, 60#8, 1#8⟩, ⟨9#32, 0x90#8, 60#8, 1#8⟩] = some .evtOrder := by decide
-- P5: FAULT goes 0x0204, 0x020C, 0x028C, 0x028E
theorem test_fault_sequence : recordFault .badCmd (recordFault .evtOrder (recordFault .badChannels
    (recordFault .notPrepared 0#16))) = 0x028E#16 := by decide
-- 60_exceptions R270: STICKY and FIRST of each cause recorded alone
theorem test_fault_codes : [Cause.badCmd, .notPrepared, .badChannels, .framesRange, .eventsRange, .evtOffset,
    .evtOrder].map (recordFault · 0#16)
    = [0x0102#16, 0x0204#16, 0x0308#16, 0x0410#16, 0x0520#16, 0x0640#16, 0x0780#16] := by decide
-- V-HOST-13
theorem test_reserved : exec (.reservedCmd80ToFF 127#7) State.reset = .next { State.reset with fault := 0x0102#16 } := by
  rfl
-- V-VOI-1
theorem test_note_on : exec (.noteOn 0#4 69#8 127#8) fresh = .next
    { fresh with active := 69#8, peak := 0x3F000000#32, freq := 0x43DC0000#32, slope := 0x3B088889#32,
                 inc := 0x3D6BE9A5#32 } := by rfl
-- V-VOI-4
theorem test_note_on_v0 : exec (.noteOnV0 0#4 69#8) { fresh with active := 69#8, slope := 0x3B088889#32 }
    = .next { fresh with active := 0#8, slope := 0xBB088889#32 } := by rfl
-- E4: a stale note-off
theorem test_note_off_stale : exec (.noteOff 0#4 60#8 0#8) { fresh with active := 64#8 }
    = .next { fresh with active := 64#8 } := by rfl
-- V-VOI-7, V-VOI-8
theorem test_silent_threshold : isSilent { fresh with level := 0x30000000#32 } = false := by decide
theorem test_silent_disabled : isSilent { fresh with level := 0x30000000#32, envEn := false } = true := by decide

/-! ### Guard (45_guard.md) -/

/-- A state whose channel 0 holds these words from frame 0 on. -/
def withWords (ws : List Real32) : State :=
  (List.range ws.length).foldl (fun s f => s.memWrite 0 f (ws.getD f 0#32)) fresh

/-- The words of channel 0 and `GUARD_DIAG` after the guard. -/
def guarded (ws : List Real32) : List Real32 × BitVec 32 :=
  let t := guardSlice 0 0 ws.length (withWords ws)
  ((List.range ws.length).map (t.memRead 0), t.guardDiag)

-- V-GRD-1, V-GRD-2, V-GRD-3, V-GRD-4, V-GRD-7, V-GRD-9, V-GRD-11
theorem test_guard_clamp : guarded [half, 0x3FC00000#32, 0xBE800000#32] = ([half, one, 0xBE800000#32], 1#32) := by decide
theorem test_guard_nan : guarded [half, 0x7FC00000#32, 0x3E800000#32] = ([0#32, 0#32, 0#32], 0x00010000#32) := by decide
theorem test_guard_two : guarded [two, 0xC0000000#32] = ([one, negOne], 1#32) := by decide
theorem test_guard_runaway : guarded [half, 0x40000001#32] = ([0#32, 0#32], 0x00020000#32) := by decide
theorem test_guard_passes : guarded [1#32, negZero, one, negOne] = ([1#32, negZero, one, negOne], 0#32) := by decide
theorem test_guard_clamp_then_nan : guarded [0x3FC00000#32, half, 0x7FC00000#32]
    = ([0#32, 0#32, 0#32], 0x00010001#32) := by decide
theorem test_guard_first_decides : guarded [0x40400000#32, 0x7FC00000#32] = ([0#32, 0#32], 0x00020000#32) := by decide
-- V-GRD-15: the count saturates
theorem test_count_saturates : countClamp 0x0000FFFF#32 = 0x0000FFFF#32 := by decide

/-! ### Sink (20_memory R86 to R88): V-SINK-1, V-SINK-2, V-SINK-3, V-SINK-5 -/

theorem test_pcm_rounds : pcmSample 0x3CEBC842#32 = 943#16 := by decide
theorem test_pcm_half_away : pcmSample half = 0x4000#16 := by decide
theorem test_pcm_negative : pcmSample negOne = 0x8001#16 := by decide
theorem test_pcm_program_4 : pcmSample 0xBF7B2B2F#32 = 0x826B#16 := by decide
-- 91_not_in_source N14: an integral rate is the rate itself
theorem test_sink_rate : sinkRate 0x473B8000#32 = 48000#32 := by decide
theorem test_sink_header : (sinkHeader 2 48000#32 16).drop 20
    = [1#8, 0#8, 2#8, 0#8] ++ bytesOfWord 48000#32 ++ bytesOfWord 192000#32 ++ [4#8, 0#8, 16#8, 0#8] ++
      [0x64#8, 0x61#8, 0x74#8, 0x61#8] ++ bytesOfWord 16#32 := by decide

/-! ### The step -/

theorem test_step_waits : step State.reset = .next State.reset := by rfl
theorem test_step_prepare : step (State.reset.issue [0x00000001#32, 0x473B8000#32]) = .next fresh := by rfl
theorem test_step_first_event : step (State.reset.withFetchWord 24 0x904500)
    = .next { State.reset with render := some ⟨1#2, 1#32, [⟨0#32, 0x90#8, 0x45#8, 0#8⟩], 0#32, 1#32, false⟩ } := by rfl
theorem test_step_first_command : step (State.reset.withFetchWord 32 0x00000003)
    = .next { State.reset with fault := 0x0204#16 } := by rfl

/-! ### Witnesses: every hypothesis of every statement is met -/

/-- An event list that passes 43_scheduler R215 for four frames, with two events at one offset and one at the last. -/
def twoNotes : List EventRecord := [⟨1#32, 0x90#8, 60#8, 100#8⟩, ⟨1#32, 0x80#8, 60#8, 0#8⟩, ⟨3#32, 0x90#8, 64#8, 1#8⟩]

/-- A running block over that list, its first event applied. -/
def running : Render := ⟨2#2, 4#32, twoNotes, 1#32, 1#32, false⟩

theorem witness_decode_transaction : (Instr.renderBlock 3#2 4#32 twoNotes).wellFormed = true ∧
    (Instr.renderBlock 3#2 4#32 twoNotes).isEvent = false := by decide
theorem witness_decode_event : (Instr.noteOn 15#4 255#8 1#8).wellFormed = true ∧
    (Instr.noteOn 15#4 255#8 1#8).isEvent = true := by decide
theorem witness_reserved_bits :
    (commandCode 0xFFFFFF01#32 ≠ 0x02#8 ∧ commandCode 0xFFFFFF01#32 ≠ 0x03#8 ∧
      (0xFFFFFF01#32).extractLsb' 0 8 = (0x00000001#32).extractLsb' 0 8) ∧
    (commandCode 0xFFFFFF02#32 = 0x02#8 ∧ (0xFFFFFF02#32).extractLsb' 0 9 = (0x00000102#32).extractLsb' 0 9) ∧
    (commandCode 0xFFFFFD03#32 = 0x03#8 ∧ (0xFFFFFD03#32).extractLsb' 0 10 = (0x00000103#32).extractLsb' 0 10) ∧
    (0xFF903C64#32).extractLsb' 0 24 = (0x00903C64#32).extractLsb' 0 24 := by decide
theorem witness_length : decodeTransaction [0x00000001#32, 5#32, 6#32] = .ok (.prepare 5#32, [6#32]) ∧
    ([0x00000103#32, 4#32] : List Word).length < transactionLength [0x00000103#32, 4#32] := ⟨rfl, by decide⟩
theorem witness_bytes : ([1#8, 2#8, 3#8] : List Byte).length < 4 := by decide
theorem witness_reserved_code : commandCode 0x00000004#32 ≠ 0x01#8 ∧ commandCode 0x00000004#32 ≠ 0x02#8 ∧
    commandCode 0x00000004#32 ≠ 0x03#8 := by decide
theorem witness_fault_record : 7 < 8 ∧ 7 ≠ Cause.code .badCmd ∧ 0 ≠ Cause.code .badCmd := by decide
theorem witness_render_fault :
    renderCheck maxFrames maxEvents State.reset.prepared 1#2 4#32 twoNotes = some .notPrepared := rfl
theorem witness_checks_in_order : (8 < (9#32).toNat) ∧ ((8#32).toNat ≤ 8 ∧ 2 < twoNotes.length) ∧
    ((8#32).toNat ≤ 8 ∧ twoNotes.length ≤ 3) := by decide
theorem witness_event_checks : EventsLegal 4#32 twoNotes ∧ checkEvents 4#32 none twoNotes = none := by
  refine ⟨⟨?_, ?_⟩, ?_⟩ <;> decide
theorem witness_empty_block : fresh.prepared = true ∧ (2#2 = 1#2 ∨ 2#2 = 2#2) ∧ fresh.render = none := by decide
theorem witness_render_completes : fresh.prepared = true ∧ (2#2 = 1#2 ∨ 2#2 = 2#2) ∧ (1#32).toNat ≤ maxFrames ∧
    ([] : List EventRecord).length ≤ maxEvents ∧ EventsLegal 1#32 [] ∧ fresh.out.wf = true :=
  ⟨rfl, .inr rfl, one_le_maxFrames, Nat.zero_le _, ⟨by simp, List.Pairwise.nil⟩, rfl⟩
theorem witness_silent_block : fresh.prepared = true ∧ (1#2 = 1#2 ∨ 1#2 = 2#2) ∧ (1#32).toNat ≤ maxFrames ∧
    fresh.render = none ∧ isSilent fresh = true ∧ fresh.out.wf = true :=
  ⟨rfl, .inl rfl, one_le_maxFrames, rfl, by decide, rfl⟩
theorem one_frame_checks : renderCheck maxFrames maxEvents fresh.prepared 1#2 1#32 [] = none := by
  have h : ¬ maxFrames < (1#32).toNat := Nat.not_lt.mpr one_le_maxFrames
  simp only [renderCheck, h]
  rfl
theorem witness_prior_buffer : fresh.out.wf = true ∧ Memory.wf [(0, 1#8), (5, 2#8)] = true ∧
    renderCheck maxFrames maxEvents fresh.prepared 1#2 1#32 [] = none := ⟨rfl, by decide, one_frame_checks⟩
theorem witness_note_off : (69#8 = { fresh with active := 69#8 }.active) ∧ (60#8 ≠ { fresh with active := 69#8 }.active) := by
  decide
theorem witness_steal : exec (.noteOn 0#4 60#8 100#8) fresh = .next (voiceNoteOn 60#8 100#8 fresh) ∧
    exec (.noteOff 0#4 64#8 0#8) fresh = .next fresh ∧ 60#8 ≠ 64#8 := ⟨rfl, rfl, by decide⟩
theorem witness_one_sample :
    (fresh.active = 0#8 ∧ (fresh.envEn = false ∨ feq fresh.level posZero = true)) ∧
    ({ fresh with active := 5#8, envEn := false }.active ≠ 0#8 ∧ { fresh with active := 5#8, envEn := false }.envEn = false) ∧
    ({ fresh with level := 1#32 }.envEn = true ∧ feq { fresh with level := 1#32 }.level posZero = false) := by decide
theorem witness_phase_at_two_pi : -- 40_oscillator R143 (a): a sum equal to TWO_PI is kept; just above it wraps once
    flt 0x40C90FDB#32 (fadd 0x40B90FDB#32 half) = false ∧ fadd 0x40B90FDB#32 half = 0x40C90FDB#32 ∧
    flt 0x40C90FDB#32 (fadd 0x40C90FDB#32 0x35000000#32) = true ∧ fadd 0x40C90FDB#32 0x35000000#32 = 0x40C90FDC#32 ∧
    fsub 0x40C90FDC#32 0x40C90FDB#32 = 0x35000000#32 := by decide
theorem witness_one_sample_wraps :
    (renderOneSample { fresh with active := 5#8, envEn := false, phase := 0x40B90FDB#32, inc := half }).2.phase
      = 0x40C90FDB#32 ∧
    (renderOneSample { fresh with active := 5#8, envEn := false, phase := 0x40C90FDB#32, inc := 0x35000000#32 }).2.phase
      = 0x35000000#32 := by decide
theorem witness_level_limits :
    flt one (fadd 0x3F7FBE77#32 0x3B088889#32) = true ∧ flt (fadd posZero 0xBB088889#32) posZero = true ∧
    flt one (fadd half half) = false := by decide
theorem witness_one_turn : inTurn twoPi = true ∧ inTurn posZero = true := by decide
theorem witness_zero_rate : flt posZero 0x00000001#32 = true ∧ isNaN canonicalNaN = true := by decide
theorem witness_envelope : isNaN (infinity true) = false ∧ inUnit one = true ∧ inUnit posZero = true := by decide
theorem witness_infinite_slope : inUnit { fresh with level := one, slope := 0xFF800000#32 }.level = true ∧
    inUnit { fresh with slope := 0x7F800000#32 }.level = true := by decide
theorem witness_nan_level : isNaN { fresh with level := canonicalNaN }.level = true ∧ fresh.envEn = true := by decide
theorem witness_laws : isNaN canonicalNaN = true ∧ isInf (infinity true) = true ∧ isFinite 0x7F7FFFFF#32 = true ∧
    (0xC2FC0000#32 ≠ 0x80000000#32 ∧ isFinite 0xC2FC0000#32 = true ∧ units 0xC2FC0000#32 = -126 * 2 ^ 149) ∧
    (0x42FE0000#32 ≠ 0x80000000#32 ∧ isFinite 0x42FE0000#32 = true ∧ units 0x42FE0000#32 = 127 * 2 ^ 149) := by decide
theorem witness_rounding : 0 < 100 ∧ roundBits (2 ^ 149) 100 < 0x7F800000 ∧ isFinite 0x3C23D70B#32 = true := by decide
theorem witness_rounding_tie : roundBits 1 2 < 0x7F800000 ∧ isFinite 0x00000001#32 = true ∧
    ((magnitude (BitVec.ofNat 32 (roundBits 1 2)) * 2 : Nat) - (1 : Nat) : Int).natAbs
      = ((magnitude 0x00000001#32 * 2 : Nat) - (1 : Nat) : Int).natAbs ∧
    magnitude (BitVec.ofNat 32 (roundBits 1 2)) ≠ magnitude 0x00000001#32 := by decide
theorem witness_operations : isFinite one = true ∧ isFinite a4Note = true ∧ isFinite (fadd one a4Note) = true ∧
    isFinite (fsub one a4Note) = true ∧ isFinite (fmul one a4Note) = true ∧ isFinite (fdiv one a4Note) = true := by decide
theorem witness_operations_overflow : isFinite 0x7F7FFFFF#32 = true ∧ fadd 0x7F7FFFFF#32 0x73000000#32 = 0x7F800000#32 ∧
    fadd 0x7F7FFFFF#32 0x72FFFFFF#32 = 0x7F7FFFFF#32 ∧ fmul 0xFF7FFFFF#32 two = 0xFF800000#32 ∧
    fmul 0x80000001#32 half = negZero ∧ units one ≠ 0 ∧ units one + units a4Note ≠ 0 ∧ units one - units a4Note ≠ 0 := by
  decide
theorem witness_operations_tie : units (fadd one 0x33800000#32) ≠ units 0x3F800001#32 ∧
    (units (fadd one 0x33800000#32) * 1 - (units one + units 0x33800000#32)).natAbs
      = (units 0x3F800001#32 * 1 - (units one + units 0x33800000#32)).natAbs := by decide
/-- A sounding voice at phase -0 with increment -0: each of its samples is -0 by law (a) of SIN. -/
def sounding : State := { fresh with active := 69#8, envEn := false, phase := negZero, inc := negZero, peak := half }
theorem witness_samples_reach : sounding.out.wf = true ∧
    (∀ j, j < 2 → inGuardRange (sampleAt j sounding) = true ∧ sampleAt j sounding = negZero) ∧
    (renderSpan 2 3 2 sounding).memRead 1 4 = negZero := by decide
theorem witness_sample_out_of_range : inGuardRange (sampleAt 0 { sounding with peak := 0x7F800000#32 }) = false := by
  have h : isNaN (asNaN (Config.rawNaN .mul negZero 0x7F800000#32)) = true := by
    unfold asNaN
    split
    · assumption
    · decide
  have hs : sampleAt 0 { sounding with peak := 0x7F800000#32 } = asNaN (Config.rawNaN .mul negZero 0x7F800000#32) := rfl
  have hf : isFinite (asNaN (Config.rawNaN .mul negZero 0x7F800000#32)) = false := by
    simp only [isNaN, Bool.and_eq_true, beq_iff_eq] at h
    simp [isFinite, h.1]
  rw [hs, inGuardRange, hf, Bool.false_and]
theorem witness_block_samples : sounding.prepared = true ∧ (2#2 = 1#2 ∨ 2#2 = 2#2) ∧ (1#32).toNat ≤ maxFrames ∧
    sounding.out.wf = true ∧ ∀ j, j < (1#32).toNat → inGuardRange (sampleAt j sounding) = true :=
  ⟨rfl, .inr rfl, one_le_maxFrames, rfl, by decide⟩
theorem witness_guard_nonfinite : (withWords [two, 0x7F800000#32]).out.wf = true ∧
    inGuardRange ((withWords [two, 0x7F800000#32]).memRead 0 0) = true ∧
    isFinite ((withWords [two, 0x7F800000#32]).memRead 0 1) = false := by decide
theorem witness_guard_runaway : (withWords [two, 0x40000001#32]).out.wf = true ∧
    inGuardRange ((withWords [two, 0x40000001#32]).memRead 0 0) = true ∧
    isFinite ((withWords [two, 0x40000001#32]).memRead 0 1) = true ∧
    flt two (fabs ((withWords [two, 0x40000001#32]).memRead 0 1)) = true := by decide
theorem witness_guard_counts : someClamped (withWords [two, 0x7F800000#32]) 0 0 1 ∧
    ¬ someClamped (withWords [one, 0x7F800000#32]) 0 0 1 ∧ ¬ someClamped (withWords [half, 0x40000001#32]) 0 0 1 ∧
    someClamped (withWords [two, 0x40000001#32]) 0 0 1 := by
  refine ⟨⟨0, by decide⟩, ?_, ?_, ⟨0, by decide⟩⟩ <;>
  · rintro ⟨f, -, hf, h⟩
    have : f = 0 := by omega
    subst this
    revert h
    decide
theorem witness_guard_clamps : (withWords [two, one]).out.wf = true ∧
    ∀ f, f < 2 → inGuardRange ((withWords [two, one]).memRead 0 f) = true := by decide
theorem witness_both_channels : (2 ^ 32 - 4) + 4 ≤ 2 ^ 32 ∧ fresh.out.wf = true := by decide
theorem witness_idle_step : { fresh with port := [0x00000004#32, 5#32] }.render = none ∧
    decodeTransaction [0x00000004#32, 5#32] = .ok (.reservedCmd04To07 0#2, [5#32]) := ⟨rfl, rfl⟩
theorem witness_running_step : { fresh with render := some running }.render = some running ∧
    running.events[running.evtIndex.toNat]? = some ⟨1#32, 0x80#8, 60#8, 0#8⟩ ∧ ¬ running.cursor < 1#32 := by decide
theorem witness_port_waits : { fresh with port := [0x00000002#32] }.render = none ∧
    decodeTransaction [0x00000002#32] = .error (.incomplete 3 1) ∧
    step { fresh with render := some running } = .next { fresh with render := some { running with evtIndex := 2#32 } } :=
  ⟨rfl, rfl, rfl⟩
theorem witness_writers : exec (.noteOn 0#4 60#8 100#8) fresh = .next (voiceNoteOn 60#8 100#8 fresh) ∧
    (voiceNoteOn 60#8 100#8 fresh).active ≠ fresh.active ∧
    exec (.configure false one one) fresh = .next { fresh with envEn := false, attackS := one, releaseS := one } :=
  ⟨rfl, by decide, rfl⟩
theorem witness_writers_each :
    (∃ t, exec (.prepare one) { fresh with guardDiag := 1#32, freq := one } = .next t ∧ t.sampleRate ≠ fresh.sampleRate ∧
      t.guardDiag ≠ 1#32 ∧ t.freq ≠ one) ∧
    (∃ t, exec (.noteOnV0 0#4 60#8) { fresh with active := 60#8 } = .next t ∧ t.active ≠ 60#8) ∧
    (∃ t, exec .reservedCmd00 fresh = .next t ∧ t.fault ≠ fresh.fault) ∧
    (∃ t, exec (.renderBlock 1#2 1#32 []) { fresh with out := [(0, 1#8)] } = .next t ∧ t.out ≠ [(0, 1#8)]) := by
  refine ⟨⟨_, rfl, by decide⟩, ⟨_, rfl, by decide⟩, ⟨_, rfl, by decide⟩, ?_⟩
  refine ⟨scheduleBlock 1#2 1#32 [] { fresh with out := [(0, 1#8)] }, ?_, by decide⟩
  show execRenderBlock _ _ _ _ = _
  have h : renderCheck maxFrames maxEvents (State.prepared { fresh with out := [(0, 1#8)] }) 1#2 1#32 [] = none := one_frame_checks
  simp only [execRenderBlock, h]
theorem witness_invariants : fresh.out.wf = true ∧ faultRecordLegal 0x0204#16 = true ∧ diagLegal 0x0003FFFF#32 = true ∧
    levelLegal one = true ∧
    step { fresh with port := [0x00000000#32], fault := 0x0204#16 } = .next { fresh with fault := 0x0206#16 } :=
  ⟨rfl, by decide, by decide, by decide, rfl⟩
theorem witness_running_legal : RenderLegal running ∧ { fresh with render := some running }.render = some running := by
  refine ⟨⟨by decide, by decide, by decide, by decide, ⟨by decide, by decide⟩, by decide⟩, rfl⟩
theorem witness_run_legal : State.RunLegal { fresh with render := some running } := by
  intro r h
  cases h
  exact witness_running_legal.1
theorem witness_plan : EventsLegal 4#32 twoNotes ∧
    blockPlan 4 0 twoNotes = [.span 0 1, .event ⟨1#32, 0x90#8, 60#8, 100#8⟩, .event ⟨1#32, 0x80#8, 60#8, 0#8⟩, .span 1 2,
      .event ⟨3#32, 0x90#8, 64#8, 1#8⟩, .span 3 1] := ⟨witness_event_checks.1, by decide⟩
theorem witness_sink_header : 44 - 8 + 8 < 2 ^ 32 ∧ 44 - 8 + (2 ^ 32 - 37) < 2 ^ 32 := by decide
theorem witness_integral_rate : (2 = 1 ∨ 2 = 2) ∧ 48000 < 2 ^ 32 ∧ isFinite fresh.sampleRate = true ∧
    signBit fresh.sampleRate = false ∧ magnitude fresh.sampleRate = 48000 * 2 ^ 149 := by decide
theorem witness_special_operands : isNaN canonicalNaN = true ∧ isInf (infinity true) = true ∧ isFinite negZero = true ∧
    magnitude negZero = 0 ∧ magnitude one ≠ 0 ∧ isFinite one = true ∧ isInf (infinity false) = true ∧
    signBit (infinity true) ≠ signBit (infinity false) ∧ units one + units negOne = 0 ∧
    units negZero + units negZero = 0 := by decide
theorem witness_sink : sampleSafe one = true ∧ sampleSafe negOne = true := by decide

end Sys2Proof.Tests
end

section
/-! PROOFS. The bit fields of a binary32 pattern as numbers, its classes, what flipping its sign leaves, and the pattern
made of a sign and bits (spec/00_scope.md R11). -/

namespace Sys2Proof.Machine

/-! ### Fields as numbers -/

theorem expField_eq (x : Real32) : expField x = x.toNat / 2 ^ 23 % 2 ^ 8 := by
  rw [expField, BitVec.extractLsb'_toNat, Nat.shiftRight_eq_div_pow]

theorem fracField_eq (x : Real32) : fracField x = x.toNat % 2 ^ 23 := by
  rw [fracField, BitVec.extractLsb'_toNat, Nat.shiftRight_zero]

theorem signBit_eq (x : Real32) : signBit x = decide (2 ^ 31 ≤ x.toNat) := by
  have h := x.isLt
  rw [signBit, BitVec.getLsbD, Nat.testBit_eq_decide_div_mod_eq, decide_eq_decide]
  omega

theorem fracField_lt (x : Real32) : fracField x < 2 ^ 23 := by
  rw [fracField_eq]
  exact Nat.mod_lt _ (by decide)

/-! ### Classes -/

theorem isNaN_of_isFinite {x : Real32} (h : isFinite x = true) : isNaN x = false := by
  simp_all [isFinite, isNaN]

theorem isInf_of_isFinite {x : Real32} (h : isFinite x = true) : isInf x = false := by
  simp_all [isFinite, isInf]

theorem isNaN_of_isInf {x : Real32} (h : isInf x = true) : isNaN x = false := by
  simp_all [isInf, isNaN]

/-- An infinity counts as 2^128. -/
theorem magnitude_of_isInf {x : Real32} (h : isInf x = true) : magnitude x = 2 ^ 23 * 2 ^ 254 := by
  simp only [isInf, Bool.and_eq_true, beq_iff_eq] at h
  rw [magnitude, h.1, h.2, if_neg (by decide), Nat.add_zero, show 255 - 1 = 254 from rfl]

theorem magnitude_ne_zero_of_isInf {x : Real32} (h : isInf x = true) : magnitude x ≠ 0 := by
  rw [magnitude_of_isInf h]
  exact Nat.mul_ne_zero (by decide) (Nat.two_pow_pos _).ne'

theorem isNaN_asNaN (x : Real32) : isNaN (asNaN x) = true := by
  unfold asNaN
  split
  · assumption
  · decide

@[simp] theorem isNaN_nanResult (op : FloatOp) (a b : Real32) : isNaN (nanResult op a b) = true := isNaN_asNaN _

/-! ### Signed values -/

@[simp] theorem natAbs_units (x : Real32) : (units x).natAbs = magnitude x := by
  unfold units
  split
  · rw [Int.natAbs_neg, Int.natAbs_natCast]
  · exact Int.natAbs_natCast _

theorem units_eq_zero_iff (x : Real32) : units x = 0 ↔ magnitude x = 0 := by
  rw [← Int.natAbs_eq_zero, natAbs_units]

/-! ### `fneg` flips the sign and nothing else -/

@[simp] theorem expField_fneg (x : Real32) : expField (fneg x) = expField x := by
  rw [expField, fneg, BitVec.extractLsb'_xor, show BitVec.extractLsb' 23 8 0x80000000#32 = 0#8 by decide,
    BitVec.xor_zero, expField]

@[simp] theorem fracField_fneg (x : Real32) : fracField (fneg x) = fracField x := by
  rw [fracField, fneg, BitVec.extractLsb'_xor, show BitVec.extractLsb' 0 23 0x80000000#32 = 0#23 by decide,
    BitVec.xor_zero, fracField]

@[simp] theorem signBit_fneg (x : Real32) : signBit (fneg x) = !signBit x := by
  rw [signBit, fneg, BitVec.getLsbD_xor, show (0x80000000#32).getLsbD 31 = true by decide, Bool.xor_true, signBit]

@[simp] theorem isNaN_fneg (x : Real32) : isNaN (fneg x) = isNaN x := by simp [isNaN]

@[simp] theorem isInf_fneg (x : Real32) : isInf (fneg x) = isInf x := by simp [isInf]

@[simp] theorem isFinite_fneg (x : Real32) : isFinite (fneg x) = isFinite x := by simp [isFinite]

@[simp] theorem magnitude_fneg (x : Real32) : magnitude (fneg x) = magnitude x := by simp [magnitude]

@[simp] theorem units_fneg (x : Real32) : units (fneg x) = -units x := by
  cases h : signBit x <;> simp [units, h]

/-! ### A pattern from its sign and its other bits -/

/-- The pattern with the given sign whose bits 30 to 0 are `n` (`n < 2^31`). -/
def withSign (neg : Bool) (n : Nat) : Real32 := BitVec.ofNat 32 (n + if neg then 2 ^ 31 else 0)

theorem roundRatio_eq_withSign (neg : Bool) (num den : Nat) :
    roundRatio neg num den = withSign neg (roundBits num den) := rfl

theorem ofNat_eq_withSign (n : Nat) : BitVec.ofNat 32 n = withSign false n := by
  rw [withSign, if_neg Bool.false_ne_true, Nat.add_zero]

theorem infinity_eq_withSign (neg : Bool) : infinity neg = withSign neg 0x7F800000 := by
  revert neg
  decide

theorem toNat_withSign (neg : Bool) {n : Nat} (h : n < 2 ^ 31) :
    (withSign neg n).toNat = n + if neg then 2 ^ 31 else 0 := by
  rw [withSign, BitVec.toNat_ofNat, Nat.mod_eq_of_lt]
  split <;> omega

theorem signBit_withSign (neg : Bool) {n : Nat} (h : n < 2 ^ 31) : signBit (withSign neg n) = neg := by
  rw [signBit_eq, toNat_withSign neg h]
  cases neg
  · simpa using h
  · simp

theorem expField_withSign (neg : Bool) {n : Nat} (h : n < 2 ^ 31) : expField (withSign neg n) = n / 2 ^ 23 := by
  rw [expField_eq, toNat_withSign neg h]
  split <;> omega

theorem fracField_withSign (neg : Bool) {n : Nat} (h : n < 2 ^ 31) : fracField (withSign neg n) = n % 2 ^ 23 := by
  rw [fracField_eq, toNat_withSign neg h]
  split <;> omega

theorem getLsbD_zero_withSign (neg : Bool) {n : Nat} (h : n < 2 ^ 31) :
    (withSign neg n).getLsbD 0 = decide (n % 2 = 1) := by
  rw [BitVec.getLsbD, toNat_withSign neg h, Nat.testBit_zero, decide_eq_decide]
  split <;> omega

theorem isFinite_withSign (neg : Bool) {n : Nat} (h : n < 0x7F800000) : isFinite (withSign neg n) = true := by
  rw [isFinite, expField_withSign neg (by omega), bne_iff_ne]
  omega

/-- `q` units of the binade `e` (a subnormal in binade 0) have the bits `e * 2^23 + q`; a significand of 2^24 is the
first of the next binade. -/
theorem magnitude_withSign (neg : Bool) {e q : Nat} (hq : q ≤ 2 ^ 24) (hn : e = 0 ∨ 2 ^ 23 ≤ q)
    (h : e * 2 ^ 23 + q < 2 ^ 31) : magnitude (withSign neg (e * 2 ^ 23 + q)) = q * 2 ^ e := by
  rw [magnitude, expField_withSign neg h, fracField_withSign neg h]
  rcases Nat.lt_or_ge q (2 ^ 23) with sub | norm
  · obtain rfl : e = 0 := by omega
    rw [if_pos (by omega)]
    omega
  · rcases hq.lt_or_eq with lt | rfl
    · rw [show (e * 2 ^ 23 + q) / 2 ^ 23 = e + 1 by omega, if_neg (Nat.succ_ne_zero e), Nat.add_sub_cancel,
        show 2 ^ 23 + (e * 2 ^ 23 + q) % 2 ^ 23 = q by omega]
    · rw [show (e * 2 ^ 23 + 2 ^ 24) / 2 ^ 23 = e + 2 by omega, if_neg (Nat.succ_ne_zero _),
        show (e * 2 ^ 23 + 2 ^ 24) % 2 ^ 23 = 0 by omega, show e + 2 - 1 = e + 1 from rfl, Nat.pow_succ]
      ring

/-- Magnitudes from the binade `e` on are whole multiples of its unit. -/
theorem two_pow_dvd_magnitude {x : Real32} {e : Nat} (h : 2 ^ 23 * 2 ^ e ≤ magnitude x) : 2 ^ e ∣ magnitude x := by
  have hf := fracField_lt x
  unfold magnitude at h ⊢
  split
  next sub =>
    rw [if_pos sub] at h
    have := Nat.two_pow_pos e
    omega
  next norm =>
    rw [if_neg norm] at h
    have hlt : 2 ^ (23 + e) < 2 ^ (24 + (expField x - 1)) := calc
      2 ^ (23 + e) = 2 ^ 23 * 2 ^ e := Nat.pow_add ..
      _ ≤ (2 ^ 23 + fracField x) * 2 ^ (expField x - 1) := h
      _ < 2 ^ 24 * 2 ^ (expField x - 1) := Nat.mul_lt_mul_of_pos_right (by omega) (Nat.two_pow_pos _)
      _ = 2 ^ (24 + (expField x - 1)) := (Nat.pow_add ..).symm
    have := (Nat.pow_lt_pow_iff_right (by decide)).mp hlt
    exact Dvd.dvd.mul_left (Nat.pow_dvd_pow 2 (by omega)) _

end Sys2Proof.Machine
end

section
/-! PROOFS. Rounding to nearest, ties to even (spec/00_scope.md R11): to an integer, then to binary32, with its overflow
(O32, O56). -/

namespace Sys2Proof.Machine

/-! ### The error of an approximation -/

/-- How far `m` is from the exact `num / den`, in units of `1 / den`. -/
def scaledError (m den num : Nat) : Nat := ((m * den : Nat) - (num : Nat) : Int).natAbs

@[simp] theorem scaledError_zero (den num : Nat) : scaledError 0 den num = num := by
  simp [scaledError]

/-- Two different integers are not both near: their errors reach across the step between them. -/
theorem le_scaledError_add {k q : Nat} (h : k ≠ q) (d n : Nat) : d ≤ scaledError q d n + scaledError k d n := by
  unfold scaledError
  rcases Nat.lt_or_gt_of_ne h with lt | gt
  · have : k * d + d ≤ q * d := by simpa [Nat.succ_mul] using Nat.mul_le_mul_right d lt
    omega
  · have : q * d + d ≤ k * d := by simpa [Nat.succ_mul] using Nat.mul_le_mul_right d gt
    omega

theorem scaledError_mul (q u den num : Nat) : scaledError (q * u) den num = scaledError q (den * u) num := by
  rw [scaledError, scaledError, Nat.mul_assoc, Nat.mul_comm u den]

/-- Below the exact value, the smaller of two approximations is the worse. -/
theorem scaledError_lt_of_lt {l m den num : Nat} (hd : 0 < den) (hml : m < l) (hl : l * den ≤ num) :
    scaledError l den num < scaledError m den num := by
  have : m * den < l * den := Nat.mul_lt_mul_of_pos_right hml hd
  unfold scaledError
  omega

/-! ### Rounding to an integer -/

/-- The rounded integer is at most half a step away, and even if exactly half a step. -/
theorem roundHalfEven_within {d : Nat} (hd : 0 < d) (n : Nat) :
    2 * scaledError (roundHalfEven n d) d n ≤ d ∧
    (2 * scaledError (roundHalfEven n d) d n = d → roundHalfEven n d % 2 = 0) := by
  have hn : n / d * d + n % d = n := Nat.div_add_mod' n d
  have hr : n % d < d := Nat.mod_lt n hd
  have down : scaledError (n / d) d n = n % d := by
    unfold scaledError
    omega
  have up : scaledError (n / d + 1) d n = d - n % d := by
    rw [scaledError, Nat.succ_mul]
    omega
  unfold roundHalfEven
  split
  · rw [down]
    omega
  · split
    · rw [up]
      omega
    · rcases Nat.mod_two_eq_zero_or_one (n / d) with even | odd
      · rw [even, Nat.add_zero, down]
        omega
      · rw [odd, up]
        omega

/-- No integer is nearer than the rounded one, and if another is equally near the rounded one is even. -/
theorem roundHalfEven_nearest {d : Nat} (hd : 0 < d) (n k : Nat) :
    scaledError (roundHalfEven n d) d n ≤ scaledError k d n ∧
    (scaledError (roundHalfEven n d) d n = scaledError k d n → roundHalfEven n d ≠ k →
      roundHalfEven n d % 2 = 0) := by
  obtain ⟨hhalf, heven⟩ := roundHalfEven_within hd n
  by_cases hk : roundHalfEven n d = k
  · exact ⟨by rw [hk], fun _ h => absurd hk h⟩
  · have := le_scaledError_add (Ne.symm hk) d n
    exact ⟨by omega, fun h _ => heven (by omega)⟩

theorem le_roundHalfEven {d n K : Nat} (hd : 0 < d) (h : K * d ≤ n) : K ≤ roundHalfEven n d := by
  have : K ≤ n / d := (Nat.le_div_iff_mul_le hd).mpr h
  unfold roundHalfEven
  split
  · exact this
  · split <;> omega

theorem roundHalfEven_le {d n K : Nat} (hd : 0 < d) (h : n < K * d) : roundHalfEven n d ≤ K := by
  have : n / d < K := (Nat.div_lt_iff_lt_mul hd).mpr h
  unfold roundHalfEven
  split
  · omega
  · split <;> omega

/-- An even integer is reached from half a step below it on. -/
theorem even_le_roundHalfEven_iff {d n K : Nat} (hd : 0 < d) (hK : 0 < K) (hK2 : K % 2 = 0) :
    K ≤ roundHalfEven n d ↔ (2 * K - 1) * d ≤ 2 * n := by
  obtain ⟨hhalf, heven⟩ := roundHalfEven_within hd n
  have hKd : (2 * K - 1) * d + d = 2 * (K * d) := by
    rw [← Nat.succ_mul, show (2 * K - 1).succ = 2 * K by omega, Nat.mul_assoc]
  unfold scaledError at hhalf heven
  constructor
  · intro h
    have := Nat.mul_le_mul_right d h
    omega
  · intro h
    by_contra hlt
    have hle : (roundHalfEven n d + 1) * d ≤ K * d := Nat.mul_le_mul_right d (by omega)
    rw [Nat.succ_mul] at hle
    have hpar : roundHalfEven n d % 2 = 0 := heven (by omega)
    have hle' : (roundHalfEven n d + 1 + 1) * d ≤ K * d := Nat.mul_le_mul_right d (by omega)
    rw [Nat.succ_mul, Nat.succ_mul] at hle'
    omega

/-! ### Rounding to binary32 -/

/-- The binade whose unit `roundBits` rounds at: the exact value is counted in units of `2^roundExp`. -/
def roundExp (num den : Nat) : Nat := Nat.log2 (num / den) - 23

/-- The rounded significand: the exact value in units of its binade, to the nearest integer. -/
def roundSig (num den : Nat) : Nat := roundHalfEven num (den * 2 ^ roundExp num den)

theorem roundBits_eq (num den : Nat) :
    roundBits num den = min (roundExp num den * 2 ^ 23 + roundSig num den) 0x7F800000 := rfl

/-- Below infinity nothing is cut. -/
theorem roundBits_eq_of_lt {num den : Nat} (h : roundBits num den < 0x7F800000) :
    roundBits num den = roundExp num den * 2 ^ 23 + roundSig num den := by
  rw [roundBits_eq] at h ⊢
  omega

/-- The exact value is below 2^24 units of its binade. -/
theorem lt_unit_of_roundExp {num den : Nat} (hd : 0 < den) : num < 2 ^ 24 * (den * 2 ^ roundExp num den) := by
  have hlog : num / den < 2 ^ (24 + roundExp num den) :=
    Nat.lt_log2_self.trans_le (Nat.pow_le_pow_right (by decide) (by rw [roundExp]; omega))
  calc num < 2 ^ (24 + roundExp num den) * den := (Nat.div_lt_iff_lt_mul hd).mp hlog
    _ = 2 ^ 24 * (den * 2 ^ roundExp num den) := by rw [Nat.pow_add, Nat.mul_assoc, Nat.mul_comm den]

/-- Outside the subnormal binade the exact value is at least 2^23 units of its binade. -/
theorem unit_of_roundExp_le {num den : Nat} (h : roundExp num den ≠ 0) :
    2 ^ 23 * (den * 2 ^ roundExp num den) ≤ num := by
  have hexp : 23 + roundExp num den = Nat.log2 (num / den) := by
    rw [roundExp] at h ⊢
    omega
  have hne : num / den ≠ 0 := fun h0 => h (by rw [roundExp, h0]; rfl)
  calc 2 ^ 23 * (den * 2 ^ roundExp num den) = 2 ^ (23 + roundExp num den) * den := by
        rw [Nat.pow_add, Nat.mul_assoc, Nat.mul_comm den]
    _ ≤ num / den * den := Nat.mul_le_mul_right _ (hexp ▸ Nat.log2_self_le hne)
    _ ≤ num := Nat.div_mul_le_self ..

theorem roundSig_le {num den : Nat} (hd : 0 < den) : roundSig num den ≤ 2 ^ 24 :=
  roundHalfEven_le (Nat.mul_pos hd (Nat.two_pow_pos _)) (lt_unit_of_roundExp hd)

theorem roundExp_zero_or_le_roundSig {num den : Nat} (hd : 0 < den) :
    roundExp num den = 0 ∨ 2 ^ 23 ≤ roundSig num den :=
  or_iff_not_imp_left.mpr fun h => le_roundHalfEven (Nat.mul_pos hd (Nat.two_pow_pos _)) (unit_of_roundExp_le h)

theorem roundBits_le (num den : Nat) : roundBits num den ≤ 0x7F800000 := Nat.min_le_right ..

/-- Overflow begins half a unit above the largest finite value: in binade 253 the significand must round up to 2^24. -/
theorem roundBits_eq_inf_iff {num den : Nat} (hd : 0 < den) :
    roundBits num den = 0x7F800000 ↔ (2 ^ 25 - 1) * 2 ^ 252 * den ≤ num := by
  have hq := roundSig_le (num := num) hd
  have hnorm := roundExp_zero_or_le_roundSig (num := num) hd
  have hbits : roundBits num den = 0x7F800000 ↔ 255 * 2 ^ 23 ≤ roundExp num den * 2 ^ 23 + roundSig num den := by
    rw [roundBits_eq]
    omega
  rw [hbits]
  rcases Nat.lt_trichotomy (roundExp num den) 253 with low | top | high
  · have hlt := lt_unit_of_roundExp (num := num) hd
    have hunit : den * 2 ^ roundExp num den ≤ den * 2 ^ 252 :=
      Nat.mul_le_mul_left _ (Nat.pow_le_pow_right (by decide) (by omega))
    omega
  · have hiff : 2 ^ 24 ≤ roundSig num den ↔ (2 * 2 ^ 24 - 1) * (den * 2 ^ 253) ≤ 2 * num := by
      rw [roundSig, top]
      exact even_le_roundHalfEven_iff (Nat.mul_pos hd (Nat.two_pow_pos _)) (by decide) (by decide)
    omega
  · have hle := unit_of_roundExp_le (num := num) (den := den) (by omega)
    have hunit : den * 2 ^ 254 ≤ den * 2 ^ roundExp num den :=
      Nat.mul_le_mul_left _ (Nat.pow_le_pow_right (by decide) high)
    omega

/-- A rounding below infinity has the magnitude of its significand in its binade. -/
theorem magnitude_withSign_roundBits (neg : Bool) {num den : Nat} (hd : 0 < den) (h : roundBits num den < 0x7F800000) :
    magnitude (withSign neg (roundBits num den)) = roundSig num den * 2 ^ roundExp num den := by
  have hb := roundBits_eq_of_lt h
  rw [hb] at h ⊢
  exact magnitude_withSign neg (roundSig_le hd) (roundExp_zero_or_le_roundSig hd) (by omega)

/-- No magnitude of a pattern is nearer than the rounded one, and if another is equally near the rounded one is even. A
magnitude that is no multiple of the binade's unit lies below the binade, so the binade's first value is nearer. -/
theorem roundBits_nearest (neg : Bool) {num den : Nat} (hd : 0 < den) (h : roundBits num den < 0x7F800000)
    (y : Real32) :
    scaledError (magnitude (withSign neg (roundBits num den))) den num ≤ scaledError (magnitude y) den num ∧
    (scaledError (magnitude (withSign neg (roundBits num den))) den num = scaledError (magnitude y) den num →
      magnitude (withSign neg (roundBits num den)) ≠ magnitude y → roundBits num den % 2 = 0) := by
  have hunit : 0 < den * 2 ^ roundExp num den := Nat.mul_pos hd (Nat.two_pow_pos _)
  have nearest := roundHalfEven_nearest hunit num
  rw [magnitude_withSign_roundBits neg hd h, scaledError_mul, roundBits_eq_of_lt h]
  by_cases hdvd : 2 ^ roundExp num den ∣ magnitude y
  · obtain ⟨k, hk⟩ := hdvd
    rw [hk, Nat.mul_comm _ k, scaledError_mul]
    obtain ⟨le, even⟩ := nearest k
    refine ⟨le, fun heq hne => ?_⟩
    have : roundSig num den % 2 = 0 := even heq fun hsig => hne (by rw [← hsig, roundSig])
    omega
  · have hlow : magnitude y < 2 ^ 23 * 2 ^ roundExp num den := by
      by_contra hge
      exact hdvd (two_pow_dvd_magnitude (Nat.le_of_not_lt hge))
    have hexp : roundExp num den ≠ 0 := fun h0 => hdvd (by rw [h0, Nat.pow_zero]; exact one_dvd _)
    have hnum : 2 ^ 23 * 2 ^ roundExp num den * den ≤ num := by
      rw [Nat.mul_assoc, Nat.mul_comm _ den]
      exact unit_of_roundExp_le hexp
    have hlt : scaledError (roundSig num den) (den * 2 ^ roundExp num den) num < scaledError (magnitude y) den num :=
      calc _ ≤ scaledError (2 ^ 23 * 2 ^ roundExp num den) den num := by
            rw [scaledError_mul]
            exact (nearest (2 ^ 23)).1
        _ < _ := scaledError_lt_of_lt hd hlow hnum
    exact ⟨hlt.le, fun heq => absurd heq hlt.ne⟩

/-- Settles O56: the top binade's significand rounds up to 2^24 exactly from half a unit below it on. -/
theorem roundingOverflowsAtTheLimit : Obligations.RoundingOverflowsAtTheLimit := by
  unfold Obligations.RoundingOverflowsAtTheLimit
  exact fun num den hd => ⟨roundBits_le num den, roundBits_eq_inf_iff hd⟩

/-- Settles O32: the nearest multiple of the binade's unit is the nearest of all binary32 magnitudes. -/
theorem roundingIsToNearestEven : Obligations.RoundingIsToNearestEven := by
  unfold Obligations.RoundingIsToNearestEven
  intro num den hd h y _
  simp only [ofNat_eq_withSign]
  exact roundBits_nearest false hd h y

end Sys2Proof.Machine
end

section
/-! PROOFS. The operations on finite operands are one rounding of the exact result (spec/00_scope.md R11; O33). -/

namespace Sys2Proof.Machine

/-! ### Signed exact values -/

/-- The integer with the given sign and magnitude. -/
def signed (neg : Bool) (n : Nat) : Int := if neg then -(n : Int) else n

theorem units_eq_signed (x : Real32) : units x = signed (signBit x) (magnitude x) := rfl

@[simp] theorem natAbs_signed (neg : Bool) (n : Nat) : (signed neg n).natAbs = n := by
  cases neg <;> simp [signed]

@[simp] theorem signed_zero (neg : Bool) : signed neg 0 = 0 := by
  cases neg <;> rfl

/-- Every integer has its own sign and magnitude. -/
theorem signed_natAbs (k : Int) : signed (decide (k < 0)) k.natAbs = k := by
  unfold signed
  simp only [decide_eq_true_eq]
  split <;> omega

theorem signed_mul (s t : Bool) (m n : Nat) : signed s m * signed t n = signed (s != t) (m * n) := by
  cases s <;> cases t <;> simp [signed]

theorem signed_neg_iff {neg : Bool} {n : Nat} (hn : 0 < n) : signed neg n < 0 ↔ neg = true := by
  cases neg <;> simp [signed, hn]

theorem natAbs_signed_sub_same (s : Bool) (m den n : Nat) :
    (signed s m * den - signed s n).natAbs = scaledError m den n := by
  rw [scaledError, Int.natCast_mul]
  cases s
  · rfl
  · simp only [signed, if_true, neg_mul]
    omega

theorem natAbs_signed_sub_opposite {s t : Bool} (h : s ≠ t) (m den n : Nat) :
    (signed s m * den - signed t n).natAbs = m * den + n := by
  cases s <;> cases t
  case false.true | true.false =>
    simp [signed]
    omega
  all_goals exact absurd rfl h

theorem scaledError_le_natAbs_signed_sub (s t : Bool) (m den n : Nat) :
    scaledError m den n ≤ (signed s m * den - signed t n).natAbs := by
  by_cases h : s = t
  · rw [h, natAbs_signed_sub_same]
  · rw [natAbs_signed_sub_opposite h]
    unfold scaledError
    omega

/-! ### One rounding is the IEEE result -/

theorem signBit_roundRatio (neg : Bool) (num den : Nat) : signBit (roundRatio neg num den) = neg :=
  signBit_withSign neg ((roundBits_le num den).trans_lt (by decide))

theorem units_roundRatio (neg : Bool) (num den : Nat) :
    units (roundRatio neg num den) = signed neg (magnitude (roundRatio neg num den)) := by
  rw [units_eq_signed, signBit_roundRatio]

/-- Below overflow no value is nearer to the signed exact value, and on a tie the rounded one is even. A value of the
other sign is no nearer than zero, so the magnitudes decide. -/
theorem roundRatio_nearest (neg : Bool) {num den : Nat} (hd : 0 < den) (h : roundBits num den < 0x7F800000)
    (y : Real32) :
    (units (roundRatio neg num den) * den - signed neg num).natAbs ≤ (units y * den - signed neg num).natAbs ∧
    ((units (roundRatio neg num den) * den - signed neg num).natAbs = (units y * den - signed neg num).natAbs →
      units (roundRatio neg num den) ≠ units y → (roundRatio neg num den).getLsbD 0 = false) := by
  have nearest := roundBits_nearest neg hd h
  rw [← roundRatio_eq_withSign] at nearest
  obtain ⟨le, even⟩ := nearest y
  have hy := scaledError_le_natAbs_signed_sub (signBit y) neg (magnitude y) den num
  rw [units_roundRatio, natAbs_signed_sub_same, units_eq_signed y]
  refine ⟨le.trans hy, fun heq hne => ?_⟩
  have hmag : magnitude (roundRatio neg num den) ≠ magnitude y := by
    intro hmag
    have hsign : signBit y ≠ neg := fun hs => hne (by rw [hmag, hs])
    have hzero : scaledError (magnitude (roundRatio neg num den)) den num ≤ num := by
      simpa [show magnitude posZero = 0 by decide] using (nearest posZero).1
    rw [natAbs_signed_sub_opposite hsign] at heq
    have hprod : magnitude y * den = 0 := by omega
    have hm : magnitude y = 0 := (Nat.mul_eq_zero.mp hprod).resolve_right hd.ne'
    exact hne (by rw [hmag, hm, signed_zero, signed_zero])
  have hbit : roundBits num den % 2 = 0 := even (le_antisymm le (hy.trans heq.ge)) hmag
  rw [roundRatio_eq_withSign, getLsbD_zero_withSign neg (h.trans (by decide)), hbit]
  rfl

/-- `roundRatio` gives the IEEE result for the signed exact value. -/
theorem roundsTo_roundRatio (neg : Bool) (num : Nat) {den : Nat} (hd : 0 < den) :
    RoundsTo (signed neg num) den (roundRatio neg num den) := by
  have hinf := roundBits_eq_inf_iff (num := num) hd
  rw [RoundsTo, natAbs_signed]
  split
  next below =>
    have hlt : roundBits num den < 0x7F800000 :=
      (roundBits_le num den).lt_of_ne fun h => Nat.not_le_of_lt below (hinf.mp h)
    exact ⟨isFinite_withSign neg hlt, fun y _ => roundRatio_nearest neg hd hlt y⟩
  next above =>
    have hnum : 0 < num := by omega
    have hneg : decide (signed neg num < 0) = neg := by rw [Bool.eq_iff_iff, decide_eq_true_iff, signed_neg_iff hnum]
    rw [hneg, infinity_eq_withSign, roundRatio_eq_withSign, hinf.mpr (Nat.le_of_not_lt above)]

/-! ### The operations on finite operands -/

/-- The sign of an exact zero sum (00_scope R11). -/
def zeroSum (a b : Real32) : Real32 := if signBit a && signBit b then negZero else posZero

/-- Either zero is the IEEE result of exactly zero. -/
theorem roundsTo_zeroSum (a b : Real32) : RoundsTo 0 1 (zeroSum a b) := by
  have hzero : isFinite (zeroSum a b) = true ∧ units (zeroSum a b) = 0 ∧ (zeroSum a b).getLsbD 0 = false := by
    unfold zeroSum
    split <;> decide
  obtain ⟨hfin, hunits, heven⟩ := hzero
  rw [RoundsTo, if_pos (by simp)]
  refine ⟨hfin, fun y _ => ⟨?_, fun _ _ => heven⟩⟩
  rw [hunits]
  exact Nat.zero_le _

section
variable {a b : Real32} (ha : isFinite a = true) (hb : isFinite b = true)
include ha hb

theorem addAs_of_isFinite (op : FloatOp) : addAs op a b =
    if units a + units b = 0 then zeroSum a b
    else roundRatio (decide (units a + units b < 0)) (units a + units b).natAbs 1 := by
  simp [addAs, zeroSum, isNaN_of_isFinite, isInf_of_isFinite, ha, hb]

theorem roundsTo_addAs (op : FloatOp) : RoundsTo (units a + units b) 1 (addAs op a b) := by
  rw [addAs_of_isFinite ha hb]
  split
  next hzero =>
    rw [hzero]
    exact roundsTo_zeroSum a b
  next =>
    have h := roundsTo_roundRatio (decide (units a + units b < 0)) (units a + units b).natAbs Nat.one_pos
    rwa [signed_natAbs] at h

theorem signBit_addAs (op : FloatOp) (h : units a + units b ≠ 0) :
    signBit (addAs op a b) = decide (units a + units b < 0) := by
  rw [addAs_of_isFinite ha hb, if_neg h, signBit_roundRatio]

theorem fmul_of_isFinite :
    fmul a b = roundRatio (signBit a != signBit b) (magnitude a * magnitude b) (2 ^ 149) := by
  simp [fmul, isNaN_of_isFinite, isInf_of_isFinite, ha, hb]

theorem fdiv_of_isFinite (h : magnitude b ≠ 0) :
    fdiv a b = roundRatio (signBit a != signBit b) (magnitude a * 2 ^ 149) (magnitude b) := by
  simp [fdiv, isNaN_of_isFinite, isInf_of_isFinite, ha, hb, h]

theorem roundsTo_fmul : RoundsTo (units a * units b) (2 ^ 149) (fmul a b) := by
  rw [fmul_of_isFinite ha hb, units_eq_signed a, units_eq_signed b, signed_mul]
  exact roundsTo_roundRatio _ _ (Nat.two_pow_pos _)

end

theorem sign_units {b : Real32} (h : magnitude b ≠ 0) : (units b).sign = signed (signBit b) 1 := by
  have : 0 < magnitude b := Nat.pos_of_ne_zero h
  cases hs : signBit b <;> simp [units, signed, hs, Int.sign_eq_one_of_pos, this]

theorem roundsTo_fdiv {a b : Real32} (ha : isFinite a = true) (hb : isFinite b = true) (h : magnitude b ≠ 0) :
    RoundsTo (units a * 2 ^ 149 * (units b).sign) (units b).natAbs (fdiv a b) := by
  have hnum : units a * 2 ^ 149 * (units b).sign = signed (signBit a != signBit b) (magnitude a * 2 ^ 149) := by
    have hscale : (2 ^ 149 : Int) = signed false (2 ^ 149) := by simp [signed]
    rw [sign_units h, units_eq_signed a, hscale, signed_mul, signed_mul, Bool.bne_false, Nat.mul_one]
  rw [hnum, natAbs_units, fdiv_of_isFinite ha hb h]
  exact roundsTo_roundRatio _ _ (Nat.pos_of_ne_zero h)

/-- Settles O33: each operation is one rounding of its exact result, and a difference is the sum with the operand's
sign flipped. -/
theorem operationsRoundTheExactResult : Obligations.OperationsRoundTheExactResult := by
  unfold Obligations.OperationsRoundTheExactResult
  intro a b ha hb
  have hnb : isFinite (fneg b) = true := by rwa [isFinite_fneg]
  have hsub : units a - units b = units a + units (fneg b) := by rw [units_fneg, sub_eq_add_neg]
  have hmag : units b ≠ 0 → magnitude b ≠ 0 := mt (units_eq_zero_iff b).mpr
  refine ⟨roundsTo_addAs ha hb .add, ?_, roundsTo_fmul ha hb, fun h => roundsTo_fdiv ha hb (hmag h),
    signBit_addAs ha hb .add, ?_, ?_, fun h => ?_⟩
  · rw [hsub]
    exact roundsTo_addAs ha hnb .sub
  · rw [hsub]
    exact signBit_addAs ha hnb .sub
  · rw [fmul_of_isFinite ha hb, signBit_roundRatio]
  · rw [fdiv_of_isFinite ha hb (hmag h), signBit_roundRatio]

end Sys2Proof.Machine
end

section
/-! PROOFS. The operations on NaN, infinities and zeros (spec/00_scope.md R11, R12; O57). -/

namespace Sys2Proof.Machine

theorem isNaN_addAs (op : FloatOp) {a b : Real32} (h : isNaN a = true ∨ isNaN b = true) :
    isNaN (addAs op a b) = true := by
  rw [addAs, if_pos (by simpa using h), isNaN_nanResult]

theorem isNaN_fmul {a b : Real32} (h : isNaN a = true ∨ isNaN b = true) : isNaN (fmul a b) = true := by
  rw [fmul, if_pos (by simpa using h), isNaN_nanResult]

theorem isNaN_fdiv {a b : Real32} (h : isNaN a = true ∨ isNaN b = true) : isNaN (fdiv a b) = true := by
  rw [fdiv, if_pos (by simpa using h), isNaN_nanResult]

section
variable {a b : Real32} (ha : isInf a = true) (hb : isFinite b = true)
include ha hb

theorem addAs_inf_finite (op : FloatOp) : addAs op a b = a := by
  simp [addAs, isNaN_of_isInf, isNaN_of_isFinite, isInf_of_isFinite, ha, hb]

theorem addAs_finite_inf (op : FloatOp) : addAs op b a = a := by
  simp [addAs, isNaN_of_isInf, isNaN_of_isFinite, isInf_of_isFinite, ha, hb]

theorem fdiv_inf_finite : fdiv a b = infinity (signBit a != signBit b) := by
  simp [fdiv, isNaN_of_isInf, isNaN_of_isFinite, isInf_of_isFinite, magnitude_ne_zero_of_isInf, ha, hb]

theorem fdiv_finite_inf : fdiv b a = if signBit a != signBit b then negZero else posZero := by
  rw [bne_comm]
  simp [fdiv, isNaN_of_isInf, isNaN_of_isFinite, isInf_of_isFinite, magnitude_ne_zero_of_isInf, ha, hb]

/-- Infinity times zero. -/
theorem isNaN_fmul_inf_zero (h : magnitude b = 0) : isNaN (fmul a b) = true ∧ isNaN (fmul b a) = true := by
  simp [fmul, isNaN_of_isInf, isNaN_of_isFinite, ha, hb, h]

theorem fmul_inf_finite (h : magnitude b ≠ 0) : fmul a b = infinity (signBit a != signBit b) := by
  simp [fmul, isNaN_of_isInf, isNaN_of_isFinite, isInf_of_isFinite, ha, hb, h]

theorem fmul_finite_inf (h : magnitude b ≠ 0) : fmul b a = infinity (signBit a != signBit b) := by
  rw [bne_comm]
  simp [fmul, isNaN_of_isInf, isNaN_of_isFinite, isInf_of_isFinite, ha, hb, h]

end

section
variable {a b : Real32} (ha : isInf a = true) (hb : isInf b = true)
include ha hb

theorem addAs_inf_same (op : FloatOp) (h : signBit a = signBit b) : addAs op a b = a := by
  simp [addAs, isNaN_of_isInf, ha, hb, h]

theorem isNaN_addAs_inf_opposite (op : FloatOp) (h : signBit a ≠ signBit b) : isNaN (addAs op a b) = true := by
  simp [addAs, isNaN_of_isInf, ha, hb, h]

theorem isNaN_fdiv_inf_inf : isNaN (fdiv a b) = true := by
  simp [fdiv, isNaN_of_isInf, ha, hb]

theorem fmul_inf_inf : fmul a b = infinity (signBit a != signBit b) := by
  simp [fmul, isNaN_of_isInf, magnitude_ne_zero_of_isInf, ha, hb]

end

section
variable {a b : Real32} (ha : isFinite a = true) (hb : isFinite b = true) (hzero : magnitude b = 0)
include ha hb hzero

theorem isNaN_fdiv_zero_zero (h : magnitude a = 0) : isNaN (fdiv a b) = true := by
  simp [fdiv, isNaN_of_isFinite, isInf_of_isFinite, ha, hb, hzero, h]

theorem fdiv_by_zero (h : magnitude a ≠ 0) : fdiv a b = infinity (signBit a != signBit b) := by
  simp [fdiv, isNaN_of_isFinite, isInf_of_isFinite, ha, hb, hzero, h]

end

/-- Settles O57, class of operands by class. A difference is the sum with the operand's sign flipped. -/
theorem specialOperandsGiveIeeeResults : Obligations.SpecialOperandsGiveIeeeResults := by
  unfold Obligations.SpecialOperandsGiveIeeeResults
  intro a b
  refine ⟨fun h => ?nan, fun ha hb => ?infFinite, fun ha hb => ?infInf, fun ha hb h0 => ?byZero,
    fun ha hb h0 => ?exactZero⟩
  case nan =>
    exact ⟨isNaN_addAs .add h, isNaN_addAs .sub (by rwa [isNaN_fneg]), isNaN_fmul h, isNaN_fdiv h⟩
  case infFinite =>
    have hna : isInf (fneg a) = true := by rwa [isInf_fneg]
    have hnb : isFinite (fneg b) = true := by rwa [isFinite_fneg]
    exact ⟨addAs_inf_finite ha hb .add, addAs_finite_inf ha hb .add, addAs_inf_finite ha hnb .sub,
      addAs_finite_inf hna hb .sub, fdiv_inf_finite ha hb, fdiv_finite_inf ha hb, isNaN_fmul_inf_zero ha hb,
      fun h => ⟨fmul_inf_finite ha hb h, fmul_finite_inf ha hb h⟩⟩
  case infInf =>
    have hnb : isInf (fneg b) = true := by rwa [isInf_fneg]
    exact ⟨isNaN_fdiv_inf_inf ha hb, fmul_inf_inf ha hb,
      fun h => ⟨addAs_inf_same ha hb .add h, isNaN_addAs_inf_opposite ha hnb .sub (by simp [h])⟩,
      fun h => ⟨isNaN_addAs_inf_opposite ha hb .add h,
        addAs_inf_same ha hnb .sub (by rwa [signBit_fneg, Bool.eq_not])⟩⟩
  case byZero =>
    exact ⟨isNaN_fdiv_zero_zero ha hb h0, fdiv_by_zero ha hb h0⟩
  case exactZero =>
    rw [fadd, addAs_of_isFinite ha hb, if_pos h0, zeroSum]

end Sys2Proof.Machine
end

section
/-! PROOFS. SIN and EXP2 obey the laws of spec/00_scope.md R16 (O31). -/

namespace Sys2Proof.Machine

/-- Law (b) of SIN (00_scope R16). -/
theorem isNaN_sine {x : Real32} (h : isNaN x = true ∨ isInf x = true) : isNaN (sine x) = true := by
  have hzero : ¬ (x = posZero ∨ x = negZero) := by
    rintro (rfl | rfl) <;> revert h <;> decide
  rw [sine, if_neg hzero, if_pos (by simpa using h)]
  exact isNaN_asNaN _

/-- Law (c) of SIN (00_scope R16). -/
theorem fabs_sine_le_one {x : Real32} (h : isFinite x = true) : fle (fabs (sine x)) one = true := by
  unfold sine
  split
  next hzero => rcases hzero with rfl | rfl <;> decide
  next =>
    rw [isNaN_of_isFinite h, isInf_of_isFinite h, if_neg (by decide)]
    split
    · assumption
    · decide

theorem smallInteger_of_units {x : Real32} {k : Int} (hf : isFinite x = true) (hu : units x = k * 2 ^ 149)
    (hlo : -126 ≤ k) (hhi : k ≤ 127) : smallInteger x = some k := by
  have hpos : (2 ^ 149 : Int) ≠ 0 := by decide
  have hmod : k * 2 ^ 149 % 2 ^ 149 = 0 := Int.mul_emod_left ..
  have hdiv : k * 2 ^ 149 / 2 ^ 149 = k := Int.mul_ediv_cancel _ hpos
  rw [smallInteger, hf, hu, hmod, hdiv]
  exact if_pos (by simpa using ⟨hlo, hhi⟩)

/-- The integers from -126 to 127 are the exponents of the normal numbers. -/
theorem powerOfTwo_spec {k : Int} (hlo : -126 ≤ k) (hhi : k ≤ 127) :
    isFinite (powerOfTwo k) = true ∧ units (powerOfTwo k) = 2 ^ (k + 149).toNat := by
  obtain ⟨e, he⟩ : ∃ e : Nat, k = e - 126 := ⟨(k + 126).toNat, by omega⟩
  subst he
  have hbits : powerOfTwo (e - 126) = withSign false (e * 2 ^ 23 + 2 ^ 23) := by
    rw [powerOfTwo, ofNat_eq_withSign, show ((e : Int) - 126 + 127).toNat = e + 1 by omega, Nat.succ_mul]
  have hsign : signBit (powerOfTwo (e - 126)) = false := by
    rw [hbits]
    exact signBit_withSign false (by omega)
  rw [units_eq_signed, hsign, hbits]
  refine ⟨isFinite_withSign false (by omega), ?_⟩
  rw [magnitude_withSign false (by decide) (.inr (Nat.le_refl _)) (by omega),
    show ((e : Int) - 126 + 149).toNat = 23 + e by omega, ← Nat.pow_add]
  simp [signed]

/-- Law (e) of EXP2 (00_scope R16). -/
theorem exp2_of_integer {x : Real32} {k : Int} (hx : x ≠ negZero) (hf : isFinite x = true)
    (hu : units x = k * 2 ^ 149) (hlo : -126 ≤ k) (hhi : k ≤ 127) : exp2 x = powerOfTwo k := by
  rw [exp2, if_neg hx, smallInteger_of_units hf hu hlo hhi]

/-- Settles O31, law by law of 00_scope R16. -/
theorem sineAndExponentialObeyTheirLaws : Obligations.SineAndExponentialObeyTheirLaws := by
  unfold Obligations.SineAndExponentialObeyTheirLaws
  refine ⟨if_pos (.inl rfl), if_pos (.inr rfl), fun x => isNaN_sine, fun x => fabs_sine_le_one, ?_, ?_⟩
  · exact exp2_of_integer (k := 0) (by decide) (by decide) (by decide) (by decide) (by decide)
  · intro x k hx hf hu hlo hhi
    rw [exp2_of_integer hx hf hu hlo hhi]
    exact powerOfTwo_spec hlo hhi

end Sys2Proof.Machine
end

section
/-! PROOFS. What one instruction and one step can do, said once, and who writes which register (spec/10_state.md R50;
O43). -/

namespace Sys2Proof.Machine

/-! ### The note messages -/

theorem voiceNoteOn_keeps (n v : Byte) (s : State) : BlockKeeps s (voiceNoteOn n v s) := by
  rw [voiceNoteOn_spec]
  exact ⟨rfl, rfl, rfl, rfl, rfl, rfl, rfl⟩

theorem voiceNoteOff_keeps (n : Byte) (s : State) : BlockKeeps s (voiceNoteOff n s) := by
  rw [voiceNoteOff_spec]
  split <;> exact ⟨rfl, rfl, rfl, rfl, rfl, rfl, rfl⟩

/-! ### What one instruction can do -/

/-- The ways an instruction changes the state. -/
inductive ExecEffect (s : State) : Instr → State → Prop
  /-- PREPARE (46_host R251) -/
  | prepare (sr : Real32) : ExecEffect s (.prepare sr)
      { s with sampleRate := sr, phase := posZero, inc := posZero, level := posZero, slope := posZero, active := 0#8,
               freq := posZero, peak := posZero, guardDiag := 0#32, prepared := true }
  /-- CONFIGURE (46_host R252) -/
  | configure (e : Bool) (atk rel : Real32) : ExecEffect s (.configure e atk rel)
      { s with envEn := e, attackS := atk, releaseS := rel }
  /-- A RENDER_BLOCK that passes its checks (46_host R253) -/
  | schedule (ch : BitVec 2) (n : Word) (evts : List EventRecord)
      (hcheck : renderCheck maxFrames maxEvents s.prepared ch n evts = none) :
      ExecEffect s (.renderBlock ch n evts) (scheduleBlock ch n evts s)
  /-- A RENDER_BLOCK that fails one (46_host R253) -/
  | renderFault (ch : BitVec 2) (n : Word) (evts : List EventRecord) (k : Cause)
      (hcheck : renderCheck maxFrames maxEvents s.prepared ch n evts = some k) :
      ExecEffect s (.renderBlock ch n evts) (raiseFault k s)
  /-- A reserved command, which is one word long (46_host R254) -/
  | reserved (i : Instr) (w : Word) (hword : encode i = [w]) (hcommand : i.isEvent = false) :
      ExecEffect s i (raiseFault .badCmd s)
  /-- NOTE_ON (42_voice R183) -/
  | noteOn (chan : BitVec 4) (note vel : Byte) : ExecEffect s (.noteOn chan note vel) (voiceNoteOn note vel s)
  /-- NOTE_OFF (42_voice R184) -/
  | noteOff (chan : BitVec 4) (note vel : Byte) : ExecEffect s (.noteOff chan note vel) (voiceNoteOff note s)
  /-- NOTE_ON_V0 (42_voice R184) -/
  | noteOnV0 (chan : BitVec 4) (note : Byte) : ExecEffect s (.noteOnV0 chan note) (voiceNoteOff note s)
  /-- An ignored event message (43_scheduler R210) -/
  | ignored (i : Instr) (hevent : i.isEvent = true) : ExecEffect s i s

/-- Every instruction answers a next state, in one of these ways. -/
theorem exists_exec_effect (i : Instr) (s : State) : ∃ t, exec i s = .next t ∧ ExecEffect s i t := by
  cases i with
  | prepare sr => exact ⟨_, rfl, .prepare sr⟩
  | configure e atk rel => exact ⟨_, rfl, .configure e atk rel⟩
  | renderBlock ch n evts =>
    obtain ⟨k, hcheck, h⟩ | ⟨hcheck, h⟩ := execRenderBlock_cases ch n evts s
    · exact ⟨_, h, .renderFault ch n evts k hcheck⟩
    · exact ⟨_, h, .schedule ch n evts hcheck⟩
  | noteOn chan note vel => exact ⟨_, rfl, .noteOn chan note vel⟩
  | noteOff chan note vel => exact ⟨_, rfl, .noteOff chan note vel⟩
  | noteOnV0 chan note => exact ⟨_, rfl, .noteOnV0 chan note⟩
  | reservedCmd00 | reservedCmd04To07 | reservedCmd08To0F | reservedCmd10To1F | reservedCmd20To3F | reservedCmd40To7F
  | reservedCmd80ToFF => exact ⟨_, rfl, .reserved _ _ rfl rfl⟩
  | ignoredData | ignoredA | ignoredB | ignoredC | ignoredD | ignoredE | ignoredF => exact ⟨_, rfl, .ignored _ rfl⟩

theorem exec_effect {i : Instr} {s t : State} (h : exec i s = .next t) : ExecEffect s i t := by
  obtain ⟨u, hu, heffect⟩ := exists_exec_effect i s
  obtain rfl : t = u := Host.Outcome.next.inj (h.symm.trans hu)
  exact heffect

/-! ### What one step can do -/

/-- The ways a step that answers a next state changes the state. -/
inductive StepEffect (s : State) : State → Prop
  /-- No whole transaction stands at the port (70_reset R300) -/
  | wait (hfetch : fetch s = .wait) : StepEffect s s
  /-- The port's next transaction (46_host R250) -/
  | command {i : Instr} {rest : List Word} {t : State} (hfetch : fetch s = .command i (s.setPort rest))
      (h : ExecEffect (s.setPort rest) i t) : StepEffect s t
  /-- The event at `EVT_INDEX` (43_scheduler R211) -/
  | event {i : Instr} {t : State} (hfetch : fetch s = .event i) (h : ExecEffect s i t) : StepEffect s t.nextEvent
  /-- A span of frames (43_scheduler R211) -/
  | span {upTo : Word} (hfetch : fetch s = .span upTo) : StepEffect s (advanceTo upTo s)
  /-- The end of the block (10_state R47) -/
  | finish (hfetch : fetch s = .finish) : StepEffect s s.endRender

theorem fetchSpan_ne_command (r : Render) (upTo : Word) (i : Instr) (u : State) :
    fetchSpan r upTo ≠ .command i u := by
  unfold fetchSpan
  split <;> simp

/-- A running RENDER_BLOCK takes no transaction. -/
theorem fetchRender_ne_command (r : Render) (i : Instr) (u : State) : fetchRender r ≠ .command i u := by
  unfold fetchRender
  split <;> split
  case h_1.isTrue | h_2.isTrue => exact fetchSpan_ne_command r _ i u
  case h_1.isFalse | h_2.isFalse => simp

/-- Taking a transaction consumes words of the port and changes nothing else. -/
theorem fetch_command {i : Instr} {s u : State} (h : fetch s = .command i u) : ∃ rest, u = s.setPort rest := by
  unfold fetch at h
  split at h
  next =>
    unfold fetchTransaction at h
    split at h
    next rest _ =>
      obtain ⟨_, rfl⟩ := Fetched.command.inj h
      exact ⟨rest, rfl⟩
    next => cases h
  next r _ => exact absurd h (fetchRender_ne_command r i u)

theorem step_effect {s t : State} (h : step s = .next t) : StepEffect s t := by
  unfold step at h
  split at h
  next hfetch =>
    obtain rfl := Host.Outcome.next.inj h
    exact .wait hfetch
  next i u hfetch =>
    obtain ⟨rest, rfl⟩ := fetch_command hfetch
    exact .command hfetch (exec_effect h)
  next i hfetch =>
    obtain ⟨u, hu, heffect⟩ := exists_exec_effect i s
    rw [hu] at h
    obtain rfl := Host.Outcome.next.inj h
    exact .event hfetch heffect
  next upTo hfetch =>
    obtain rfl := Host.Outcome.next.inj h
    exact .span hfetch
  next hfetch =>
    obtain rfl := Host.Outcome.next.inj h
    exact .finish hfetch
  next => cases h

/-! ### Who writes which register -/

/-- Settles O43: each way to change the state leaves the registers it may not write as they are. -/
theorem registersChangeOnlyByTheirWriters : Obligations.RegistersChangeOnlyByTheirWriters := by
  unfold Obligations.RegistersChangeOnlyByTheirWriters
  intro i s t h
  cases exec_effect h with
  | prepare => simp
  | configure => simp
  | schedule ch n evts =>
    obtain ⟨hrate, henv, hattack, hrelease, hprepared, hfault, hport⟩ := scheduleBlock_keeps ch n evts s
    simp [hrate, henv, hattack, hrelease, hprepared, hfault, hport]
  | renderFault => simp [raiseFault_spec]
  | reserved i w hword hcommand => simp [raiseFault_spec, hword, hcommand]
  | noteOn =>
    rw [voiceNoteOn_spec]
    simp
  | noteOff | noteOnV0 =>
    rw [voiceNoteOff_spec]
    split <;> simp
  | ignored => simp

end Sys2Proof.Machine
end

section
/-! PROOFS. The fault record (spec/10_state.md R45, spec/60_exceptions.md R272): what recording a cause does to each of
its fields, and that every step keeps it legal and forgets nothing (O47). -/

namespace Sys2Proof.Machine

/-! ### Recording a cause, field by field -/

theorem faultFirst_or (f g : BitVec 16) : faultFirst (f ||| g) = faultFirst f ||| faultFirst g :=
  BitVec.extractLsb'_or

theorem code_le_seven (k : Cause) : k.code ≤ 7 := by
  cases k <;> decide

/-- The STICKY bit of a cause is one of the bits [7:1] and no part of FIRST. -/
theorem stickyBit_fields (k : Cause) : faultFirst (1#16 <<< k.code) = 0#4 ∧
    (1#16 <<< k.code) &&& 0xF001#16 = 0#16 ∧ (1#16 <<< k.code) &&& 0x00FE#16 = 1#16 <<< k.code ∧
    (1#16 <<< k.code).getLsbD k.code = true := by
  cases k <;> decide

/-- A cause code that is written to FIRST is not 0 and touches no other field. -/
theorem firstCode_fields (k : Cause) : faultFirst (BitVec.ofNat 16 k.code <<< 8) = BitVec.ofNat 4 k.code ∧
    (BitVec.ofNat 16 k.code <<< 8) &&& 0xF001#16 = 0#16 ∧ BitVec.ofNat 4 k.code ≠ 0#4 := by
  cases k <;> decide

/-- FIRST is read after STICKY is set, which does not touch it. -/
theorem recordFault_eq (k : Cause) (f : BitVec 16) : recordFault k f =
    if faultFirst f = 0#4 then f ||| (1#16 <<< k.code) ||| (BitVec.ofNat 16 k.code <<< 8)
    else f ||| (1#16 <<< k.code) := by
  obtain ⟨hfirst, -⟩ := stickyBit_fields k
  simp only [recordFault, faultFirst_or, hfirst, BitVec.or_zero]

/-- FIRST is written if it was 0 (60_exceptions R272). -/
theorem faultFirst_recordFault (k : Cause) (f : BitVec 16) : faultFirst (recordFault k f) =
    if faultFirst f = 0#4 then BitVec.ofNat 4 k.code else faultFirst f := by
  obtain ⟨hsticky, -⟩ := stickyBit_fields k
  obtain ⟨hcode, -⟩ := firstCode_fields k
  rw [recordFault_eq]
  split
  next h0 => rw [faultFirst_or, faultFirst_or, h0, hsticky, hcode, BitVec.or_zero, BitVec.zero_or]
  next => rw [faultFirst_or, hsticky, BitVec.or_zero]

theorem faultFirst_recordFault_ne_zero (k : Cause) (f : BitVec 16) : faultFirst (recordFault k f) ≠ 0#4 := by
  obtain ⟨-, -, hne⟩ := firstCode_fields k
  rw [faultFirst_recordFault]
  split <;> assumption

/-- No bit of the record is cleared. -/
theorem faultSticky_recordFault_of_faultSticky {f : BitVec 16} {j : Nat} (k : Cause) (h : faultSticky f j = true) :
    faultSticky (recordFault k f) j = true := by
  unfold faultSticky at h ⊢
  rw [recordFault_eq]
  split <;> simp [h]

theorem faultSticky_recordFault_code (k : Cause) (f : BitVec 16) :
    faultSticky (recordFault k f) k.code = true := by
  obtain ⟨-, -, -, hbit⟩ := stickyBit_fields k
  unfold faultSticky
  rw [recordFault_eq]
  split <;> simp only [BitVec.getLsbD_or, hbit, Bool.or_true, Bool.true_or]

theorem recordFault_reserved (k : Cause) (f : BitVec 16) :
    recordFault k f &&& 0xF001#16 = f &&& 0xF001#16 := by
  obtain ⟨-, hsticky, -⟩ := stickyBit_fields k
  obtain ⟨-, hcode, -⟩ := firstCode_fields k
  rw [recordFault_eq]
  split <;> simp only [BitVec.and_or_distrib_right, hsticky, hcode, BitVec.or_zero]

/-- A recorded cause leaves some STICKY bit set. -/
theorem recordFault_sticky_ne_zero (k : Cause) (f : BitVec 16) : recordFault k f &&& 0x00FE#16 ≠ 0#16 := by
  obtain ⟨-, -, hmask, hbit⟩ := stickyBit_fields k
  have hset : (recordFault k f &&& 0x00FE#16).getLsbD k.code = true := by
    have hin := congrArg (·.getLsbD k.code) hmask
    simp only [BitVec.getLsbD_and, hbit, Bool.true_and] at hin
    rw [BitVec.getLsbD_and, hin, Bool.and_true]
    exact faultSticky_recordFault_code k f
  intro h0
  rw [h0, BitVec.getLsbD_zero] at hset
  cases hset

/-! ### The legal record -/

theorem faultRecordLegal_iff (f : BitVec 16) : faultRecordLegal f = true ↔
    f &&& 0xF001#16 = 0#16 ∧ (faultFirst f).toNat ≤ 7 ∧ (faultFirst f = 0#4 ↔ f &&& 0x00FE#16 = 0#16) ∧
    (faultFirst f = 0#4 ∨ faultSticky f (faultFirst f).toNat = true) := by
  simp only [faultRecordLegal, Bool.and_eq_true, Bool.or_eq_true, decide_eq_true_eq, and_assoc, Bool.beq_eq_decide_eq,
    decide_eq_decide]

/-- The first cause sets FIRST and its STICKY bit together; a later one finds both set. -/
theorem faultRecordLegal_recordFault (k : Cause) {f : BitVec 16} (h : faultRecordLegal f = true) :
    faultRecordLegal (recordFault k f) = true := by
  rw [faultRecordLegal_iff] at h ⊢
  obtain ⟨hreserved, hrange, -, hsticky⟩ := h
  have hcode : (BitVec.ofNat 4 k.code).toNat = k.code := by
    have := code_le_seven k
    rw [BitVec.toNat_ofNat]
    omega
  refine ⟨by rw [recordFault_reserved, hreserved], ?range,
    iff_of_false (faultFirst_recordFault_ne_zero k f) (recordFault_sticky_ne_zero k f), .inr ?sticky⟩
  case range =>
    rw [faultFirst_recordFault]
    split
    · rw [hcode]
      exact code_le_seven k
    · exact hrange
  case sticky =>
    rw [faultFirst_recordFault]
    split
    next =>
      rw [hcode]
      exact faultSticky_recordFault_code k f
    next hne => exact faultSticky_recordFault_of_faultSticky k (hsticky.resolve_left hne)

/-! ### Steps -/

/-- An instruction leaves `FAULT` as it is or records one cause there. -/
theorem ExecEffect.fault_eq {i : Instr} {s t : State} (h : ExecEffect s i t) :
    t.fault = s.fault ∨ ∃ k, t.fault = recordFault k s.fault := by
  cases h with
  | schedule ch n evts => exact .inl (scheduleBlock_keeps ch n evts s).fault
  | renderFault _ _ _ k => exact .inr ⟨k, rfl⟩
  | reserved => exact .inr ⟨.badCmd, rfl⟩
  | noteOn chan note vel => exact .inl (voiceNoteOn_keeps note vel s).fault
  | noteOff _ note | noteOnV0 _ note => exact .inl (voiceNoteOff_keeps note s).fault
  | prepare | configure | ignored => exact .inl rfl

/-- A step leaves `FAULT` as it is or records one cause there. -/
theorem StepEffect.fault_eq {s t : State} (h : StepEffect s t) :
    t.fault = s.fault ∨ ∃ k, t.fault = recordFault k s.fault := by
  cases h with
  | command _ h => exact h.fault_eq
  | event _ h => exact h.fault_eq
  | span => exact .inl (advanceTo_keeps _ s).fault
  | wait | finish => exact .inl rfl

/-- Settles O47: a step leaves the record as it is or records one cause there, which only adds to it. -/
theorem stepKeepsTheFaultRecord : Obligations.StepKeepsTheFaultRecord := by
  unfold Obligations.StepKeepsTheFaultRecord
  intro s t hlegal hstep
  obtain h | ⟨k, h⟩ := (step_effect hstep).fault_eq
  · rw [h]
    exact ⟨hlegal, fun _ hj => hj, fun _ => rfl⟩
  · rw [h]
    exact ⟨faultRecordLegal_recordFault k hlegal, fun _ hj => faultSticky_recordFault_of_faultSticky k hj,
      fun hne => by rw [faultFirst_recordFault, if_neg hne]⟩

end Sys2Proof.Machine
end

section
/-! PROOFS. The order of the binary32 values, which sums lie between two values, and which are -0 (spec/00_scope.md
R11). -/

namespace Sys2Proof.Machine

/-! ### The order -/

theorem flt_eq_true_iff {a b : Real32} :
    flt a b = true ↔ isNaN a = false ∧ isNaN b = false ∧ units a < units b := by
  simp [flt, and_assoc]

theorem fle_eq_true_iff {a b : Real32} :
    fle a b = true ↔ isNaN a = false ∧ isNaN b = false ∧ units a ≤ units b := by
  simp [fle, and_assoc]

/-- Between numbers a failed `<` is a `≥`. -/
theorem units_le_of_flt_eq_false {a b : Real32} (ha : isNaN a = false) (hb : isNaN b = false) (h : flt a b = false) :
    units b ≤ units a := by
  simpa [flt, ha, hb] using h

theorem isFinite_or_isInf_of_isNaN_eq_false {x : Real32} (h : isNaN x = false) :
    isFinite x = true ∨ isInf x = true := by
  unfold isNaN isFinite isInf at *
  by_cases he : expField x = 255 <;> simp_all

/-! ### Patterns by their value -/

/-- Of patterns with the sign bit clear, the larger number has the larger value. -/
theorem magnitude_lt_of_toNat_lt {x y : Real32} (h : x.toNat < y.toNat) (hy : y.toNat < 2 ^ 31) :
    magnitude x < magnitude y := by
  have hx := expField_eq x
  have hx' := fracField_eq x
  have hy' := expField_eq y
  have hy'' := fracField_eq y
  unfold magnitude
  rcases Nat.lt_or_ge (expField x) (expField y) with hlt | hge
  · rw [if_neg (by omega : expField y ≠ 0)]
    have hpos := Nat.two_pow_pos (expField y - 1)
    split
    next =>
      have : 2 ^ 23 * 1 ≤ (2 ^ 23 + fracField y) * 2 ^ (expField y - 1) := Nat.mul_le_mul (by omega) hpos
      omega
    next hne =>
      calc (2 ^ 23 + fracField x) * 2 ^ (expField x - 1) < 2 ^ 24 * 2 ^ (expField x - 1) :=
            Nat.mul_lt_mul_of_pos_right (by omega) (Nat.two_pow_pos _)
        _ = 2 ^ 23 * 2 ^ (expField x - 1 + 1) := by ring
        _ ≤ (2 ^ 23 + fracField y) * 2 ^ (expField y - 1) :=
            Nat.mul_le_mul (by omega) (Nat.pow_le_pow_right (by decide) (by omega))
  · have heq : expField x = expField y := by omega
    rw [heq]
    split
    · omega
    · exact Nat.mul_lt_mul_of_pos_right (by omega) (Nat.two_pow_pos _)

theorem toNat_le_of_units_le {x y : Real32} (hx : signBit x = false) (hy : signBit y = false)
    (h : units x ≤ units y) : x.toNat ≤ y.toNat := by
  by_contra hgt
  rw [units_eq_signed, units_eq_signed, hx, hy, signed, signed, if_neg Bool.false_ne_true, if_neg Bool.false_ne_true,
    Int.ofNat_le] at h
  rw [signBit_eq, decide_eq_false_iff_not] at hx
  exact Nat.not_lt_of_le h (magnitude_lt_of_toNat_lt (Nat.lt_of_not_le hgt) (Nat.lt_of_not_le hx))

/-- A finite magnitude is below the rounding limit of 00_scope R11. -/
theorem magnitude_lt_of_isFinite {x : Real32} (h : isFinite x = true) :
    magnitude x < (2 ^ 25 - 1) * 2 ^ 252 := by
  have hfrac := fracField_lt x
  have hexp : expField x - 1 ≤ 253 := by
    have : expField x < 2 ^ 8 := by
      rw [expField_eq]
      exact Nat.mod_lt _ (by decide)
    rw [isFinite, bne_iff_ne] at h
    omega
  unfold magnitude
  split
  · omega
  · calc (2 ^ 23 + fracField x) * 2 ^ (expField x - 1) ≤ (2 ^ 24 - 1) * 2 ^ 253 :=
        Nat.mul_le_mul (by omega) (Nat.pow_le_pow_right (by decide) hexp)
      _ < (2 ^ 25 - 1) * 2 ^ 252 := by decide

/-! ### Sums between two values -/

/-- Rounding crosses no finite value: a sum that lies between two is rounded to between them. -/
theorem addAs_between (op : FloatOp) {a b lo hi : Real32} (ha : isFinite a = true) (hb : isFinite b = true)
    (hlo : isFinite lo = true) (hhi : isFinite hi = true) (hl : units lo ≤ units a + units b)
    (hh : units a + units b ≤ units hi) :
    isFinite (addAs op a b) = true ∧ units lo ≤ units (addAs op a b) ∧ units (addAs op a b) ≤ units hi := by
  have hround := roundsTo_addAs ha hb op
  have hlimit : (units a + units b).natAbs < (2 ^ 25 - 1) * 2 ^ 252 * 1 := by
    have := magnitude_lt_of_isFinite hlo
    have := magnitude_lt_of_isFinite hhi
    have := natAbs_units lo
    have := natAbs_units hi
    omega
  rw [RoundsTo, if_pos hlimit] at hround
  obtain ⟨hfin, hnear⟩ := hround
  obtain ⟨hnearLo, -⟩ := hnear lo hlo
  obtain ⟨hnearHi, -⟩ := hnear hi hhi
  exact ⟨hfin, by omega, by omega⟩

/-! ### Negative zero -/

/-- -0 is the only pattern with the sign bit set whose value is not negative. -/
theorem signBit_eq_false_of_units_nonneg {x : Real32} (h : 0 ≤ units x) (hne : x ≠ negZero) : signBit x = false := by
  by_contra hsign
  rw [Bool.not_eq_false] at hsign
  have hmag : magnitude x = 0 := by
    rw [units, if_pos hsign] at h
    omega
  refine hne (BitVec.eq_of_toNat_eq ?_)
  rw [signBit_eq, decide_eq_true_eq] at hsign
  have hx := x.isLt
  have hexp := expField_eq x
  have hfrac := fracField_eq x
  unfold magnitude at hmag
  split at hmag
  next =>
    show x.toNat = 2 ^ 31
    omega
  next =>
    have := Nat.mul_pos (by omega : 0 < 2 ^ 23 + fracField x) (Nat.two_pow_pos (expField x - 1))
    omega

/-- A value of at least one unit does not round to zero. -/
theorem one_le_roundBits {num : Nat} (h : 1 ≤ num) : 1 ≤ roundBits num 1 := by
  rw [roundBits_eq]
  rcases Nat.eq_zero_or_pos (roundExp num 1) with h0 | hpos
  · have : 1 ≤ roundSig num 1 := by
      rw [roundSig, h0]
      exact le_roundHalfEven (by decide) (by omega)
    omega
  · omega

theorem ne_negZero_of_isNaN {x : Real32} (h : isNaN x = true) : x ≠ negZero := by
  rintro rfl
  exact absurd h (by decide)

theorem ne_negZero_of_isInf {x : Real32} (h : isInf x = true) : x ≠ negZero := by
  rintro rfl
  exact absurd h (by decide)

/-- An exact zero sum is +0 unless both signs are set, and no other sum rounds to a zero (00_scope R11). -/
theorem addAs_ne_negZero (op : FloatOp) {a b : Real32} (ha : signBit a = false) : addAs op a b ≠ negZero := by
  unfold addAs
  split
  · exact ne_negZero_of_isNaN (isNaN_nanResult op a b)
  split
  · exact ne_negZero_of_isNaN (isNaN_nanResult op a b)
  split
  next h => exact ne_negZero_of_isInf h
  split
  next h => exact ne_negZero_of_isInf h
  dsimp only
  split
  · rw [ha, Bool.false_and, if_neg Bool.false_ne_true]
    decide
  next hk =>
    intro h
    have hpos := one_le_roundBits (num := (units a + units b).natAbs) (by omega)
    have hle := roundBits_le (units a + units b).natAbs 1
    have hbits := congrArg BitVec.toNat h
    rw [roundRatio_eq_withSign, toNat_withSign _ (by omega), show negZero.toNat = 2 ^ 31 by decide] at hbits
    split at hbits <;> omega

end Sys2Proof.Machine
end

section
/-! PROOFS. One tick of the oscillator keeps the phase in one turn (spec/10_state.md R49 (b); O25). -/

namespace Sys2Proof.Machine

/-- 4π as a binary32 value: the largest sum of two phases of one turn. -/
def fourPi : Real32 := 0x41490FDB#32

theorem fourPi_facts : isFinite fourPi = true ∧ units fourPi = 2 * units twoPi := by decide

theorem inTurn_iff (x : Real32) : inTurn x = true ↔ isFinite x = true ∧ 0 ≤ units x ∧ units x ≤ units twoPi := by
  obtain ⟨hzeroNaN, hzero⟩ : isNaN posZero = false ∧ units posZero = 0 := by decide
  obtain ⟨hturnNaN, hturn⟩ : isNaN twoPi = false ∧ units twoPi < 2 ^ 23 * 2 ^ 254 := by decide
  rw [inTurn, Bool.and_eq_true, fle_eq_true_iff, fle_eq_true_iff, hzeroNaN, hzero, hturnNaN]
  constructor
  · rintro ⟨⟨-, hnan, hpos⟩, -, -, hle⟩
    refine ⟨(isFinite_or_isInf_of_isNaN_eq_false hnan).resolve_right fun hinf => ?_, hpos, hle⟩
    have habs := natAbs_units x
    rw [magnitude_of_isInf hinf] at habs
    omega
  · rintro ⟨hfin, hpos, hle⟩
    have hnan := isNaN_of_isFinite hfin
    exact ⟨⟨rfl, hnan, hpos⟩, hnan, rfl, hle⟩

/-- The sum of two phases of one turn is at most 4π, and one subtraction of 2π brings it back when it is above 2π. -/
theorem inTurn_oscAdvance {phase inc : Real32} (hp : inTurn phase = true) (hi : inTurn inc = true) :
    inTurn (oscAdvance phase inc) = true := by
  obtain ⟨hpfin, hp0, hple⟩ := (inTurn_iff phase).mp hp
  obtain ⟨hifin, hi0, hile⟩ := (inTurn_iff inc).mp hi
  obtain ⟨hfour, hdouble⟩ := fourPi_facts
  obtain ⟨hzeroFin, hzero⟩ : isFinite posZero = true ∧ units posZero = 0 := by decide
  have hturn : isFinite twoPi = true := by decide
  obtain ⟨hsum, hsum0, hsumle⟩ := addAs_between .add hpfin hifin hzeroFin hfour (by omega) (by omega)
  rw [inTurn_iff, oscAdvance]
  split
  next above =>
    obtain ⟨-, -, hlt⟩ := flt_eq_true_iff.mp above
    have hneg : isFinite (fneg twoPi) = true := by rwa [isFinite_fneg]
    have hunits := units_fneg twoPi
    have hdiff := addAs_between .sub hsum hneg hzeroFin hturn (by unfold fadd at hlt; omega) (by omega)
    rwa [hzero] at hdiff
  next below =>
    have hle : units (fadd phase inc) ≤ units twoPi :=
      units_le_of_flt_eq_false (isNaN_of_isFinite hturn) (isNaN_of_isFinite hsum) (by simpa using below)
    exact ⟨hsum, hzero ▸ hsum0, hle⟩

/-- Settles O25: the tick writes the advanced phase and nothing else. -/
theorem tickKeepsThePhaseInOneTurn : Obligations.TickKeepsThePhaseInOneTurn := by
  unfold Obligations.TickKeepsThePhaseInOneTurn
  exact fun s hphase hinc => ⟨inTurn_oscAdvance hphase hinc, rfl⟩

end Sys2Proof.Machine
end

section
/-! PROOFS. The clamped level and the guard's diagnostics (spec/41_envelope.md R164, spec/10_state.md R46, R49 (a)): every
operation keeps them legal, so every step does (O48). -/

namespace Sys2Proof.Machine

/-! ### The level after the clamp -/

/-- Clamp01 gives a legal level from everything but -0 (41_envelope R164). -/
theorem levelLegal_clamp01 {v : Real32} (hne : v ≠ negZero) : levelLegal (clamp01 v) = true := by
  unfold clamp01
  split
  next => decide
  next hone =>
    split
    next => decide
    next hzero =>
      cases hnan : isNaN v with
      | true => simp [levelLegal, hnan]
      | false =>
        have hle : units v ≤ units one := units_le_of_flt_eq_false (by decide) hnan (by simpa using hone)
        have hnonneg : units posZero ≤ units v := units_le_of_flt_eq_false hnan (by decide) (by simpa using hzero)
        rw [show units posZero = 0 by decide] at hnonneg
        have hbits := toNat_le_of_units_le (signBit_eq_false_of_units_nonneg hnonneg hne) (by decide) hle
        simp [levelLegal, hbits]

/-- One envelope tick keeps the level legal (41_envelope R163, R164). -/
theorem levelLegal_tick {l : Real32} (slope : Real32) (h : levelLegal l = true) :
    levelLegal (clamp01 (fadd l slope)) = true := by
  apply levelLegal_clamp01
  rw [levelLegal, Bool.or_eq_true, decide_eq_true_eq] at h
  rcases h with hnan | hle
  · exact ne_negZero_of_isNaN (isNaN_addAs .add (.inl hnan))
  · have hsign : signBit l = false := by
      rw [show one.toNat = 0x3F800000 by decide] at hle
      rw [signBit_eq, decide_eq_false_iff_not]
      omega
    exact addAs_ne_negZero .add hsign

/-! ### The diagnostics -/

theorem diagLegal_or {d m : BitVec 32} (hd : diagLegal d = true) (hm : diagLegal m = true) :
    diagLegal (d ||| m) = true := by
  rw [diagLegal, beq_iff_eq] at hd hm ⊢
  rw [BitVec.extractLsb'_or, hd, hm, BitVec.or_zero]

theorem diagLegal_markNonfinite {d : BitVec 32} (h : diagLegal d = true) : diagLegal (markNonfinite d) = true :=
  diagLegal_or h (by decide)

theorem diagLegal_markOverrange {d : BitVec 32} (h : diagLegal d = true) : diagLegal (markOverrange d) = true :=
  diagLegal_or h (by decide)

/-- The count lies below the reserved bits. -/
theorem diagLegal_countClamp {d : BitVec 32} (h : diagLegal d = true) : diagLegal (countClamp d) = true := by
  rw [diagLegal, beq_iff_eq] at h ⊢
  calc (countClamp d).extractLsb' 18 14 = (d.extractLsb' 16 16).extractLsb' 2 14 :=
        BitVec.extractLsb'_append_eq_of_le (by decide)
    _ = d.extractLsb' 18 14 := by
        ext i hi
        simp only [BitVec.getElem_extractLsb', BitVec.getLsbD_extractLsb', ← Nat.add_assoc]
        simp [show 2 + i < 16 by omega]
    _ = 0#14 := h

/-! ### The operations -/

/-- The level and the diagnostics are legal (10_state R46, R49 (a)). -/
structure LevelDiagLegal (s : State) : Prop where
  level : levelLegal s.level = true
  diag : diagLegal s.guardDiag = true

/-- An operation that writes neither register keeps both legal. -/
theorem LevelDiagLegal.of_eq {s t : State} (h : LevelDiagLegal s) (hlevel : t.level = s.level)
    (hdiag : t.guardDiag = s.guardDiag) : LevelDiagLegal t :=
  ⟨hlevel ▸ h.level, hdiag ▸ h.diag⟩

section
variable {s : State} (h : LevelDiagLegal s)
include h

/-- The level after a sample is the one before it or one tick on (42_voice R186). -/
theorem LevelDiagLegal.renderOneSample : LevelDiagLegal (renderOneSample s).2 := by
  refine ⟨?_, by rw [renderOneSample_guardDiag]; exact h.diag⟩
  unfold Machine.renderOneSample renderSounding
  split
  · exact h.level
  · dsimp only [oscTick]
    split
    · exact levelLegal_tick s.slope h.level
    · exact h.level

theorem LevelDiagLegal.writeChannels (channels f : Nat) (v : Real32) :
    LevelDiagLegal (writeChannels channels f v s) := by
  obtain ⟨o, ho⟩ := writeChannels_spec channels f v s
  rw [ho]
  exact h.of_eq rfl rfl

theorem LevelDiagLegal.zeroSlice (c len k : Nat) : LevelDiagLegal (zeroSlice c len k s) := by
  obtain ⟨o, ho⟩ := zeroSlice_spec c len k s
  rw [ho]
  exact h.of_eq rfl rfl

theorem LevelDiagLegal.flagClamp (clamped : Bool) : LevelDiagLegal (flagClamp clamped s) := by
  unfold Machine.flagClamp
  split
  · exact h
  · exact ⟨h.level, diagLegal_countClamp h.diag⟩

theorem LevelDiagLegal.applyEvent (e : EventRecord) : LevelDiagLegal (applyEvent e s) := by
  obtain ⟨a, p, f, sl, i, he⟩ := applyEvent_spec e s
  rw [he]
  exact h.of_eq rfl rfl

theorem LevelDiagLegal.voiceNoteOn (n v : Byte) : LevelDiagLegal (voiceNoteOn n v s) := by
  rw [voiceNoteOn_spec]
  exact h.of_eq rfl rfl

theorem LevelDiagLegal.voiceNoteOff (n : Byte) : LevelDiagLegal (voiceNoteOff n s) := by
  rw [voiceNoteOff_spec]
  split
  · exact h.of_eq rfl rfl
  · exact h

end

theorem LevelDiagLegal.renderFrames (channels len f : Nat) {s : State} (h : LevelDiagLegal s) :
    LevelDiagLegal (renderFrames channels len f s) := by
  induction len generalizing f s with
  | zero => exact h
  | succ len ih => exact ih (f + 1) (h.renderOneSample.writeChannels channels f _)

theorem LevelDiagLegal.guardScan (c start len todo k : Nat) (clamped : Bool) {s : State} (h : LevelDiagLegal s) :
    LevelDiagLegal (guardScan c start len todo k clamped s).2 := by
  induction todo generalizing k clamped s with
  | zero => exact h
  | succ todo ih =>
    have hzero := h.zeroSlice c len start
    rw [Machine.guardScan]
    dsimp only
    split
    · exact ⟨hzero.level, diagLegal_markNonfinite hzero.diag⟩
    split
    · exact ⟨hzero.level, diagLegal_markOverrange hzero.diag⟩
    split
    · have hwrite : LevelDiagLegal (s.memWrite c k (clampSample (s.memRead c k))) := h.of_eq rfl rfl
      exact ih (k + 1) true (hwrite.flagClamp clamped)
    · exact ih (k + 1) clamped h

theorem LevelDiagLegal.guardChannels (start len channels : Nat) {s : State} (h : LevelDiagLegal s) :
    LevelDiagLegal (guardChannels start len channels s) := by
  induction channels with
  | zero => exact h
  | succ c ih => exact (ih.guardScan c start len len start false).of_eq rfl rfl

theorem LevelDiagLegal.advanceTo (t : Word) {s : State} (h : LevelDiagLegal s) : LevelDiagLegal (advanceTo t s) := by
  unfold Machine.advanceTo renderSpan
  split
  · exact ((h.renderFrames _ _ _).guardChannels _ _ _).of_eq rfl rfl
  · exact h

theorem LevelDiagLegal.scheduleBlock (ch : BitVec 2) (n : Word) (evts : List EventRecord) {s : State}
    (h : LevelDiagLegal s) : LevelDiagLegal (scheduleBlock ch n evts s) := by
  have fold : ∀ (es : List EventRecord) (u : State), LevelDiagLegal u → LevelDiagLegal (es.foldl scheduleEvent u) := by
    intro es
    induction es with
    | nil => exact fun _ hu => hu
    | cons e es ih => exact fun u hu => ih _ (((hu.advanceTo e.ofs).applyEvent e).of_eq rfl rfl)
  have hbegin : LevelDiagLegal (s.beginRender ch n evts) := h.of_eq rfl rfl
  exact ((fold evts _ hbegin).advanceTo n).of_eq rfl rfl

/-! ### Steps -/

theorem LevelDiagLegal.of_execEffect {i : Instr} {s t : State} (h : LevelDiagLegal s) (ht : ExecEffect s i t) :
    LevelDiagLegal t := by
  cases ht with
  | prepare => exact ⟨show levelLegal posZero = true by decide, show diagLegal 0#32 = true by decide⟩
  | schedule ch n evts => exact h.scheduleBlock ch n evts
  | noteOn _ note vel => exact h.voiceNoteOn note vel
  | noteOff _ note | noteOnV0 _ note => exact h.voiceNoteOff note
  | configure | renderFault | reserved | ignored => exact h.of_eq rfl rfl

theorem LevelDiagLegal.of_stepEffect {s t : State} (h : LevelDiagLegal s) (ht : StepEffect s t) : LevelDiagLegal t := by
  cases ht with
  | wait => exact h
  | @command _ rest _ _ ht =>
    have hport : LevelDiagLegal (s.setPort rest) := h.of_eq rfl rfl
    exact hport.of_execEffect ht
  | event _ ht => exact (h.of_execEffect ht).of_eq rfl rfl
  | span => exact h.advanceTo _
  | finish => exact h.of_eq rfl rfl

/-- Settles O48: every operation a step is made of keeps the level and the diagnostics legal. -/
theorem stepKeepsLevelAndDiagnosticsLegal : Obligations.StepKeepsLevelAndDiagnosticsLegal := by
  unfold Obligations.StepKeepsLevelAndDiagnosticsLegal
  intro s t hlevel hdiag hstep
  obtain ⟨hlevel', hdiag'⟩ := LevelDiagLegal.of_stepEffect ⟨hlevel, hdiag⟩ (step_effect hstep)
  exact ⟨hlevel', hdiag'⟩

end Sys2Proof.Machine
end

section
/-! PROOFS. Every operation keeps the buffer in canonical form (spec/20_memory.md R71, log entry 5), so every step does
(O46). -/

namespace Sys2Proof.Machine

theorem applyEvent_out (e : EventRecord) (s : State) : (applyEvent e s).out = s.out := by
  obtain ⟨a, p, f, sl, i, h⟩ := applyEvent_spec e s
  rw [h]

theorem voiceNoteOff_out (n : Byte) (s : State) : (voiceNoteOff n s).out = s.out := by
  rw [voiceNoteOff_spec]
  split <;> rfl

theorem wf_advanceTo (t : Word) {s : State} (h : s.out.wf = true) : (advanceTo t s).out.wf = true := by
  unfold advanceTo
  split
  · exact (renderSpan_out _ _ _ s h).1
  · exact h

theorem wf_scheduleEvent (e : EventRecord) {s : State} (h : s.out.wf = true) :
    (scheduleEvent s e).out.wf = true := by
  show (applyEvent e (advanceTo e.ofs s)).out.wf = true
  rw [applyEvent_out]
  exact wf_advanceTo e.ofs h

theorem wf_scheduleEvents (evts : List EventRecord) {s : State} (h : s.out.wf = true) :
    (evts.foldl scheduleEvent s).out.wf = true := by
  induction evts generalizing s with
  | nil => exact h
  | cons e evts ih => exact ih (wf_scheduleEvent e h)

theorem wf_scheduleBlock (ch : BitVec 2) (n : Word) (evts : List EventRecord) {s : State} (h : s.out.wf = true) :
    (scheduleBlock ch n evts s).out.wf = true :=
  wf_advanceTo n (wf_scheduleEvents evts (s := s.beginRender ch n evts) h)

theorem ExecEffect.out_wf {i : Instr} {s t : State} (ht : ExecEffect s i t) (h : s.out.wf = true) :
    t.out.wf = true := by
  cases ht with
  | schedule ch n evts => exact wf_scheduleBlock ch n evts h
  | noteOn _ note vel =>
    rw [voiceNoteOn_spec]
    exact h
  | noteOff _ note | noteOnV0 _ note =>
    rw [voiceNoteOff_out]
    exact h
  | prepare | configure | renderFault | reserved | ignored => exact h

theorem StepEffect.out_wf {s t : State} (ht : StepEffect s t) (h : s.out.wf = true) : t.out.wf = true := by
  cases ht with
  | command _ ht => exact ht.out_wf h
  | event _ ht => exact ht.out_wf h
  | span => exact wf_advanceTo _ h
  | wait | finish => exact h

/-- Settles O46: `OUT` is written by spans of frames only, and they keep it canonical. -/
theorem stepKeepsTheBufferCanonical : Obligations.StepKeepsTheBufferCanonical := by
  unfold Obligations.StepKeepsTheBufferCanonical
  exact fun s t hwf hstep => (step_effect hstep).out_wf hwf

end Sys2Proof.Machine
end

section
/-! PROOFS. A word stream carried as bytes, least significant byte first (spec/20_memory.md R75; O8). -/

namespace Sys2Proof.Machine

theorem append_bytes_of_word (w : Word) :
    w.extractLsb' 24 8 ++ w.extractLsb' 16 8 ++ w.extractLsb' 8 8 ++ w.extractLsb' 0 8 = w := by
  rw [BitVec.extractLsb'_append_extractLsb'_eq_extractLsb' (by decide),
    BitVec.extractLsb'_append_extractLsb'_eq_extractLsb' (by decide),
    BitVec.extractLsb'_append_extractLsb'_eq_extractLsb' (by decide)]
  exact BitVec.extractLsb'_eq_self

/-- A whole word stands first in the stream. -/
theorem wordsOfBytes_bytesOfWord_append (w : Word) (bs : List Byte) :
    wordsOfBytes (bytesOfWord w ++ bs) = (w :: (wordsOfBytes bs).1, (wordsOfBytes bs).2) := by
  simp only [bytesOfWord, List.cons_append, List.nil_append, wordsOfBytes, append_bytes_of_word]

/-- Fewer than four bytes are no word. -/
theorem wordsOfBytes_of_length_lt {bs : List Byte} (h : bs.length < 4) : wordsOfBytes bs = ([], bs) := by
  match bs, h with
  | [], _ | [_], _ | [_, _], _ | [_, _, _], _ => rfl

/-- Settles O8, by induction on the words. -/
theorem byteStreamCarriesTheWords : Obligations.ByteStreamCarriesTheWords := by
  unfold Obligations.ByteStreamCarriesTheWords
  intro ws bs hbs
  induction ws with
  | nil => exact wordsOfBytes_of_length_lt hbs
  | cons w ws ih =>
    have hsplit : bytesOfWords (w :: ws) ++ bs = bytesOfWord w ++ (bytesOfWords ws ++ bs) := by
      simp only [bytesOfWords, List.flatMap_cons, List.append_assoc]
    rw [hsplit, wordsOfBytes_bytesOfWord_append, ih]

end Sys2Proof.Machine
end

section
/-! PROOFS. Two runs of a RENDER_BLOCK on buffers of any content: every word the guard reads was written by the same span,
so the runs agree but for `OUT`, and there on every word of the block (spec/20_memory.md R72; O19). -/

namespace Sys2Proof.Machine

/-! ### Two states that differ in `OUT` only -/

/-- `t` is `s` but for `OUT`; both buffers are canonical and hold the same words `(c, f)` where `p` holds. -/
structure AgreeOn (p : Nat → Nat → Prop) (s t : State) : Prop where
  eq_setOut : t = s.setOut t.out
  wf_left : s.out.wf = true
  wf_right : t.out.wf = true
  memRead_eq : ∀ c f, p c f → f < 2 ^ 32 → t.memRead c f = s.memRead c f

theorem AgreeOn.mono {p q : Nat → Nat → Prop} {s t : State} (h : AgreeOn p s t) (hq : ∀ c f, q c f → p c f) :
    AgreeOn q s t :=
  ⟨h.eq_setOut, h.wf_left, h.wf_right, fun c f hcf => h.memRead_eq c f (hq c f hcf)⟩

/-- An operation that neither reads nor writes `OUT` keeps the agreement. -/
theorem AgreeOn.map {p : Nat → Nat → Prop} {s t : State} (h : AgreeOn p s t) (g : State → State)
    (hcomm : ∀ (u : State) (o : Memory), g (u.setOut o) = (g u).setOut o) (hout : ∀ u, (g u).out = u.out) :
    AgreeOn p (g s) (g t) where
  eq_setOut := by
    rw [hout t, ← hcomm]
    exact congrArg g h.eq_setOut
  wf_left := by
    rw [hout]
    exact h.wf_left
  wf_right := by
    rw [hout]
    exact h.wf_right
  memRead_eq c f hcf hf := by
    unfold State.memRead
    rw [hout, hout]
    exact h.memRead_eq c f hcf hf

/-- After the same write to both, the written word agrees too. -/
theorem AgreeOn.memWrite {p q : Nat → Nat → Prop} {s t : State} (h : AgreeOn p s t) {c f : Nat} (v : Real32)
    (hf : f < 2 ^ 32) (hq : ∀ c' f', q c' f' → p c' f' ∨ c' = c ∧ f' = f) :
    AgreeOn q (s.memWrite c f v) (t.memWrite c f v) where
  eq_setOut := show t.setOut _ = (s.setOut t.out).setOut _ from congrArg (State.setOut · _) h.eq_setOut
  wf_left := Memory.wf_writeWord _ _ h.wf_left
  wf_right := Memory.wf_writeWord _ _ h.wf_right
  memRead_eq c' f' hcf hf' := by
    by_cases hsame : c' = c ∧ f' = f
    · obtain ⟨rfl, rfl⟩ := hsame
      rw [State.memRead_memWrite_same _ _ _ _ h.wf_left, State.memRead_memWrite_same _ _ _ _ h.wf_right]
    · rw [State.memRead_memWrite_other v h.wf_left hf hf' hsame, State.memRead_memWrite_other v h.wf_right hf hf' hsame]
      exact h.memRead_eq c' f' ((hq c' f' hcf).resolve_right hsame) hf'

/-! ### The operations that do not read `OUT` -/

theorem renderOneSample_setOut (s : State) (o : Memory) :
    renderOneSample (s.setOut o) = ((renderOneSample s).1, (renderOneSample s).2.setOut o) := by
  unfold renderOneSample renderSounding
  rw [show isSilent (s.setOut o) = isSilent s from rfl]
  split
  · rfl
  · dsimp only [oscTick]
    rw [State.setPhase_envEn, State.setPhase_envEn, State.setOut_envEn]
    split <;> rfl

theorem applyEvent_setOut (e : EventRecord) (s : State) (o : Memory) :
    applyEvent e (s.setOut o) = (applyEvent e s).setOut o := by
  unfold applyEvent
  split
  · rfl
  · rw [voiceNoteOff_spec, voiceNoteOff_spec, State.setOut_active]
    split <;> rfl
  · rfl

theorem flagClamp_setOut (clamped : Bool) (s : State) (o : Memory) :
    flagClamp clamped (s.setOut o) = (flagClamp clamped s).setOut o := by
  cases clamped <;> rfl

theorem flagClamp_out (clamped : Bool) (s : State) : (flagClamp clamped s).out = s.out := by
  cases clamped <;> rfl

section
variable {p : Nat → Nat → Prop} {s t : State} (h : AgreeOn p s t)
include h

theorem AgreeOn.renderOneSample_fst : (renderOneSample t).1 = (renderOneSample s).1 := by
  rw [h.eq_setOut, renderOneSample_setOut]

theorem AgreeOn.renderOneSample_snd : AgreeOn p (renderOneSample s).2 (renderOneSample t).2 :=
  h.map (fun u => (renderOneSample u).2) (fun u o => congrArg Prod.snd (renderOneSample_setOut u o)) renderOneSample_out

theorem AgreeOn.flagClamp (clamped : Bool) : AgreeOn p (flagClamp clamped s) (flagClamp clamped t) :=
  h.map (Machine.flagClamp clamped) (flagClamp_setOut clamped) (flagClamp_out clamped)

theorem AgreeOn.applyEvent (e : EventRecord) : AgreeOn p (applyEvent e s) (applyEvent e t) :=
  h.map (Machine.applyEvent e) (applyEvent_setOut e) (applyEvent_out e)

theorem AgreeOn.render_eq : t.render = s.render := by
  rw [h.eq_setOut]
  rfl

end

/-! ### The guard -/

theorem AgreeOn.zeroSlice {p : Nat → Nat → Prop} (c len k : Nat) {s t : State} (h : AgreeOn p s t)
    (hk : k + len ≤ 2 ^ 32) : AgreeOn p (zeroSlice c len k s) (zeroSlice c len k t) := by
  induction len generalizing k s t with
  | zero => exact h
  | succ len ih => exact ih (k + 1) (h.memWrite posZero (by omega) fun _ _ hp => .inl hp) (by omega)

/-- The scan takes the same branches on words that agree. -/
theorem AgreeOn.guardScan {p : Nat → Nat → Prop} {c start len : Nat} (hlen : start + len ≤ 2 ^ 32)
    (hp : ∀ f, start ≤ f → f < start + len → p c f) {todo k : Nat} (hk : start ≤ k) (ht : k + todo ≤ start + len)
    (clamped : Bool) {s t : State} (h : AgreeOn p s t) :
    (guardScan c start len todo k clamped t).1 = (guardScan c start len todo k clamped s).1 ∧
    AgreeOn p (guardScan c start len todo k clamped s).2 (guardScan c start len todo k clamped t).2 := by
  induction todo generalizing k clamped s t with
  | zero => exact ⟨rfl, h⟩
  | succ todo ih =>
    have hzero := h.zeroSlice c len start hlen
    have hread : t.memRead c k = s.memRead c k := h.memRead_eq c k (hp k hk (by omega)) (by omega)
    simp only [Machine.guardScan, hread]
    split
    · exact ⟨rfl, hzero.map (fun u => u.setGuardDiag (markNonfinite u.guardDiag)) (fun _ _ => rfl) fun _ => rfl⟩
    split
    · exact ⟨rfl, hzero.map (fun u => u.setGuardDiag (markOverrange u.guardDiag)) (fun _ _ => rfl) fun _ => rfl⟩
    split
    · have hwrite := h.memWrite (c := c) (clampSample (s.memRead c k)) (by omega : k < 2 ^ 32) fun _ _ hp => .inl hp
      exact ih (by omega) (by omega) true (hwrite.flagClamp clamped)
    · exact ih (by omega) (by omega) clamped h

theorem AgreeOn.guardSlice {p : Nat → Nat → Prop} {c start len : Nat} (hlen : start + len ≤ 2 ^ 32)
    (hp : ∀ f, start ≤ f → f < start + len → p c f) {s t : State} (h : AgreeOn p s t) :
    AgreeOn p (guardSlice c start len s) (guardSlice c start len t) := by
  obtain ⟨hclamped, hscan⟩ := h.guardScan hlen hp le_rfl le_rfl false
  unfold Machine.guardSlice
  dsimp only
  rw [hclamped]
  exact hscan.map (fun u => u.setSliceClamped _) (fun _ _ => rfl) fun _ => rfl

theorem AgreeOn.guardChannels {p : Nat → Nat → Prop} {start len channels : Nat} (hlen : start + len ≤ 2 ^ 32)
    (hp : ∀ c f, c < channels → start ≤ f → f < start + len → p c f) {s t : State} (h : AgreeOn p s t) :
    AgreeOn p (guardChannels start len channels s) (guardChannels start len channels t) := by
  induction channels with
  | zero => exact h
  | succ c ih => exact (ih fun d f hd => hp d f (by omega)).guardSlice hlen fun f => hp c f (by omega)

/-! ### The renderer -/

/-- After the same value went to every channel, the words of that frame agree too. -/
theorem AgreeOn.writeChannels {p q : Nat → Nat → Prop} {channels f : Nat} (hf : f < 2 ^ 32) (v : Real32) {s t : State}
    (h : AgreeOn p s t) (hq : ∀ c' f', q c' f' → p c' f' ∨ c' < channels ∧ f' = f) :
    AgreeOn q (writeChannels channels f v s) (writeChannels channels f v t) := by
  induction channels generalizing q with
  | zero => exact h.mono fun c' f' hcf => (hq c' f' hcf).resolve_right (by omega)
  | succ c ih =>
    refine (ih (q := fun c' f' => p c' f' ∨ c' < c ∧ f' = f) fun _ _ h => h).memWrite v hf fun c' f' hcf => ?_
    rcases hq c' f' hcf with hp | ⟨hc, rfl⟩
    · exact .inl (.inl hp)
    · rcases Nat.lt_succ_iff_lt_or_eq.mp hc with hlt | rfl
      · exact .inl (.inr ⟨hlt, rfl⟩)
      · exact .inr ⟨rfl, rfl⟩

/-- After the same frames were rendered, their words agree too. -/
theorem AgreeOn.renderFrames {p q : Nat → Nat → Prop} {channels len k : Nat} (hk : k + len ≤ 2 ^ 32) {s t : State}
    (h : AgreeOn p s t) (hq : ∀ c f, q c f → p c f ∨ c < channels ∧ k ≤ f ∧ f < k + len) :
    AgreeOn q (renderFrames channels len k s) (renderFrames channels len k t) := by
  induction len generalizing k s t p with
  | zero => exact h.mono fun c f hcf => (hq c f hcf).resolve_right (by omega)
  | succ len ih =>
    simp only [Machine.renderFrames, h.renderOneSample_fst]
    refine ih (p := fun c f => p c f ∨ c < channels ∧ f = k) (by omega)
      (h.renderOneSample_snd.writeChannels (by omega) _ fun _ _ h => h) fun c f hcf => ?_
    rcases hq c f hcf with hp | ⟨hc, hkf, hfk⟩
    · exact .inl (.inl hp)
    · rcases Nat.eq_or_lt_of_le hkf with rfl | hlt
      · exact .inl (.inr ⟨hc, rfl⟩)
      · exact .inr ⟨hc, hlt, by omega⟩

/-- The guard reads only words of its span, which the renderer has just written (44_renderer R231, R233). -/
theorem AgreeOn.renderSpan {p q : Nat → Nat → Prop} {channels start len : Nat} (hlen : start + len ≤ 2 ^ 32)
    {s t : State} (h : AgreeOn p s t) (hq : ∀ c f, q c f → p c f ∨ c < channels ∧ start ≤ f ∧ f < start + len) :
    AgreeOn q (renderSpan channels start len s) (renderSpan channels start len t) := by
  have hframes := h.renderFrames (q := fun c f => p c f ∨ c < channels ∧ start ≤ f ∧ f < start + len) hlen fun _ _ h => h
  exact (hframes.guardChannels hlen fun c f hc h1 h2 => .inr ⟨hc, h1, h2⟩).mono hq

/-! ### Channel count and cursor -/

/-- The words of the frames the running block has rendered so far (10_state R47). -/
def State.rendered (s : State) (c f : Nat) : Prop := c < s.channelCount ∧ f < s.cursor.toNat

theorem channelCount_of_render_eq {s t : State} (h : t.render = s.render) : t.channelCount = s.channelCount := by
  rw [State.channelCount, h]
  rfl

theorem cursor_of_render_eq {s t : State} (h : t.render = s.render) : t.cursor = s.cursor := by
  rw [State.cursor, h]
  rfl

@[simp] theorem State.setSliceClamped_channelCount (s : State) (b : Bool) :
    (s.setSliceClamped b).channelCount = s.channelCount := by
  unfold setSliceClamped channelCount
  cases s.render <;> rfl

@[simp] theorem State.setCursor_channelCount (s : State) (v : Word) :
    (s.setCursor v).channelCount = s.channelCount := by
  unfold setCursor channelCount
  cases s.render <;> rfl

/-- Without a running block there is no cursor to write, and it reads 0. -/
theorem State.setCursor_cursor_le (s : State) (v : Word) : (s.setCursor v).cursor.toNat ≤ v.toNat := by
  unfold setCursor cursor
  cases s.render
  · exact Nat.zero_le _
  · exact le_rfl

@[simp] theorem State.nextEvent_channelCount (s : State) : s.nextEvent.channelCount = s.channelCount := by
  unfold nextEvent channelCount
  cases s.render <;> rfl

@[simp] theorem State.nextEvent_cursor (s : State) : s.nextEvent.cursor = s.cursor := by
  unfold nextEvent cursor
  cases s.render <;> rfl

theorem renderFrames_render (channels len f : Nat) (s : State) :
    (renderFrames channels len f s).render = s.render := by
  induction len generalizing f s with
  | zero => rfl
  | succ len ih =>
    obtain ⟨o, h⟩ := writeChannels_spec channels f (renderOneSample s).1 (renderOneSample s).2
    rw [renderFrames, ih, h, State.setOut_render, renderOneSample_render]

theorem guardSlice_channelCount (c start len : Nat) (s : State) :
    (guardSlice c start len s).channelCount = s.channelCount := by
  obtain ⟨o, d, b, h⟩ := guardSlice_spec c start len s
  rw [h, State.setSliceClamped_channelCount]
  rfl

theorem guardChannels_channelCount (start len channels : Nat) (s : State) :
    (guardChannels start len channels s).channelCount = s.channelCount := by
  induction channels with
  | zero => rfl
  | succ c ih => rw [guardChannels, guardSlice_channelCount, ih]

theorem advanceTo_channelCount (upTo : Word) (s : State) : (advanceTo upTo s).channelCount = s.channelCount := by
  unfold advanceTo renderSpan
  split
  · rw [State.setCursor_channelCount, guardChannels_channelCount]
    exact channelCount_of_render_eq (renderFrames_render ..)
  · rfl

theorem advanceTo_cursor_le (upTo : Word) (s : State) :
    (advanceTo upTo s).cursor.toNat ≤ max s.cursor.toNat upTo.toNat := by
  unfold advanceTo
  split
  · exact (State.setCursor_cursor_le _ upTo).trans (Nat.le_max_right ..)
  · exact Nat.le_max_left ..

theorem applyEvent_render (e : EventRecord) (s : State) : (applyEvent e s).render = s.render := by
  obtain ⟨a, p, f, sl, i, h⟩ := applyEvent_spec e s
  rw [h]

theorem scheduleEvent_channelCount (s : State) (e : EventRecord) :
    (scheduleEvent s e).channelCount = s.channelCount := by
  rw [scheduleEvent, State.nextEvent_channelCount, channelCount_of_render_eq (applyEvent_render e _),
    advanceTo_channelCount]

theorem scheduleEvent_cursor (s : State) (e : EventRecord) : (scheduleEvent s e).cursor = (advanceTo e.ofs s).cursor := by
  rw [scheduleEvent, State.nextEvent_cursor, cursor_of_render_eq (applyEvent_render e _)]

theorem scheduleEvents_channelCount (evts : List EventRecord) (s : State) :
    (evts.foldl scheduleEvent s).channelCount = s.channelCount := by
  induction evts generalizing s with
  | nil => rfl
  | cons e evts ih => rw [List.foldl_cons, ih, scheduleEvent_channelCount]

/-! ### The scheduler -/

/-- Advancing the cursor extends the agreement from the rendered frames to the new ones. -/
theorem AgreeOn.advanceTo (upTo : Word) {s t : State} (h : AgreeOn s.rendered s t) :
    AgreeOn (fun c f => c < s.channelCount ∧ f < max s.cursor.toNat upTo.toNat) (advanceTo upTo s)
      (advanceTo upTo t) := by
  unfold Machine.advanceTo
  rw [cursor_of_render_eq h.render_eq, channelCount_of_render_eq h.render_eq]
  have hmax : upTo.toNat < 2 ^ 32 := upTo.isLt
  split
  next hlt =>
    rw [BitVec.lt_def] at hlt
    refine (h.renderSpan (by omega) fun c f ⟨hc, hf⟩ => ?_).map (fun u => u.setCursor upTo) (fun _ _ => rfl) fun _ => rfl
    by_cases hold : f < s.cursor.toNat
    · exact .inl ⟨hc, hold⟩
    · exact .inr ⟨hc, by omega, by omega⟩
  next hge =>
    rw [BitVec.lt_def] at hge
    exact h.mono fun c f ⟨hc, hf⟩ => ⟨hc, by omega⟩

theorem AgreeOn.scheduleEvent (e : EventRecord) {s t : State} (h : AgreeOn s.rendered s t) :
    AgreeOn (scheduleEvent s e).rendered (scheduleEvent s e) (scheduleEvent t e) := by
  have hnext := ((h.advanceTo e.ofs).applyEvent e).map State.nextEvent (fun _ _ => rfl) fun _ => rfl
  refine hnext.mono fun c f ⟨hc, hf⟩ => ?_
  rw [scheduleEvent_channelCount] at hc
  rw [scheduleEvent_cursor] at hf
  exact ⟨hc, hf.trans_le (advanceTo_cursor_le e.ofs s)⟩

theorem AgreeOn.scheduleEvents (evts : List EventRecord) {s t : State} (h : AgreeOn s.rendered s t) :
    AgreeOn (evts.foldl Machine.scheduleEvent s).rendered (evts.foldl Machine.scheduleEvent s)
      (evts.foldl Machine.scheduleEvent t) := by
  induction evts generalizing s t with
  | nil => exact h
  | cons e evts ih => exact ih (h.scheduleEvent e)

/-- A block makes every one of its words agree, whatever the two buffers held. -/
theorem AgreeOn.scheduleBlock (ch : BitVec 2) (n : Word) (evts : List EventRecord) {s t : State}
    (h : AgreeOn (fun _ _ => False) s t) :
    AgreeOn (fun c f => c < ch.toNat ∧ f < n.toNat) (scheduleBlock ch n evts s) (scheduleBlock ch n evts t) := by
  have hbegin : AgreeOn (s.beginRender ch n evts).rendered (s.beginRender ch n evts) (t.beginRender ch n evts) :=
    (h.map (fun u => u.beginRender ch n evts) (fun _ _ => rfl) fun _ => rfl).mono fun _ _ ⟨_, hf⟩ => Nat.not_lt_zero _ hf
  have hend := ((hbegin.scheduleEvents evts).advanceTo n).map State.endRender (fun _ _ => rfl) fun _ => rfl
  refine hend.mono fun c f ⟨hc, hf⟩ => ⟨?_, hf.trans_le (Nat.le_max_right ..)⟩
  rw [scheduleEvents_channelCount]
  exact hc

/-- Settles O19: the checks do not read `OUT`, and an accepted block writes every word before its guard reads it. -/
theorem priorBufferNeverShows : Obligations.PriorBufferNeverShows := by
  unfold Obligations.PriorBufferNeverShows
  intro ch n evts s o hs ho
  have hstart : AgreeOn (fun _ _ => False) s (s.setOut o) := ⟨rfl, hs, ho, fun _ _ h => h.elim⟩
  obtain ⟨k, hcheck, hexec⟩ | ⟨hcheck, hexec⟩ := execRenderBlock_cases ch n evts s
  · have hexec' : execRenderBlock ch n evts (s.setOut o) = .next (raiseFault k (s.setOut o)) := by
      rw [execRenderBlock, State.setOut_prepared, hcheck]
    exact ⟨_, _, hexec, hexec', rfl, fun hnone => absurd (hcheck.symm.trans hnone) (by simp)⟩
  · have hexec' : execRenderBlock ch n evts (s.setOut o) = .next (scheduleBlock ch n evts (s.setOut o)) := by
      rw [execRenderBlock, State.setOut_prepared, hcheck]
    obtain ⟨heq, -, -, hwords⟩ := hstart.scheduleBlock ch n evts
    refine ⟨_, _, hexec, hexec', ?_, fun _ c f hc hf => hwords c f ⟨hc, hf⟩ (hf.trans n.isLt)⟩
    rw [heq]
    rfl

end Sys2Proof.Machine
end

section
/-! PROOFS. What the PCM sink makes of a guarded word (spec/20_memory.md R88; O53) and the fields of its header
(spec/20_memory.md R86, R87; O54, O55). -/

namespace Sys2Proof.Machine

/-! ### The magnitude of a value -/

theorem expField_fabs (x : Real32) : expField (fabs x) = expField x := by
  rw [expField, fabs, BitVec.extractLsb'_and, show BitVec.extractLsb' 23 8 0x7FFFFFFF#32 = BitVec.allOnes 8 by decide,
    BitVec.and_allOnes, expField]

theorem fracField_fabs (x : Real32) : fracField (fabs x) = fracField x := by
  rw [fracField, fabs, BitVec.extractLsb'_and, show BitVec.extractLsb' 0 23 0x7FFFFFFF#32 = BitVec.allOnes 23 by decide,
    BitVec.and_allOnes, fracField]

theorem signBit_fabs (x : Real32) : signBit (fabs x) = false := by
  rw [signBit, fabs, BitVec.getLsbD_and, show (0x7FFFFFFF#32).getLsbD 31 = false by decide, Bool.and_false]

theorem units_fabs (x : Real32) : units (fabs x) = magnitude x := by
  rw [units, signBit_fabs, if_neg Bool.false_ne_true, magnitude, magnitude, expField_fabs, fracField_fabs]

/-- A guarded word is finite and of at most `one` units (45_guard R245). -/
theorem sampleSafe_bounds {x : Real32} (h : sampleSafe x = true) :
    isFinite x = true ∧ -units one ≤ units x ∧ units x ≤ units one := by
  rw [sampleSafe, Bool.and_eq_true, fle_eq_true_iff, units_fabs] at h
  obtain ⟨hfin, -, -, hmag⟩ := h
  have := natAbs_units x
  exact ⟨hfin, by omega, by omega⟩

/-! ### Rounding between two values -/

theorem natAbs_units_mul_lt {x : Real32} (h : isFinite x = true) {den : Nat} (hd : 0 < den) :
    (units x * den).natAbs < (2 ^ 25 - 1) * 2 ^ 252 * den := by
  rw [Int.natAbs_mul, natAbs_units, Int.natAbs_natCast]
  exact Nat.mul_lt_mul_of_pos_right (magnitude_lt_of_isFinite h) hd

/-- Rounding crosses no finite value: an exact value that lies between two is rounded to between them. -/
theorem RoundsTo.between {num : Int} {den : Nat} {r lo hi : Real32} (h : RoundsTo num den r) (hd : 0 < den)
    (hlo : isFinite lo = true) (hhi : isFinite hi = true) (hl : units lo * den ≤ num) (hh : num ≤ units hi * den) :
    units lo ≤ units r ∧ units r ≤ units hi := by
  have hlimit : num.natAbs < (2 ^ 25 - 1) * 2 ^ 252 * den := by
    have := natAbs_units_mul_lt hlo hd
    have := natAbs_units_mul_lt hhi hd
    omega
  rw [RoundsTo, if_pos hlimit] at h
  obtain ⟨-, hnear⟩ := h
  obtain ⟨hnearLo, -⟩ := hnear lo hlo
  obtain ⟨hnearHi, -⟩ := hnear hi hhi
  have hpos : (0 : Int) < den := Int.natCast_pos.mpr hd
  exact ⟨le_of_mul_le_mul_right (by omega) hpos, le_of_mul_le_mul_right (by omega) hpos⟩

/-! ### One sample -/

/-- Scaled by 32767.0, a guarded word stays within 32767.0. -/
theorem units_fmul_pcmScale {x : Real32} (h : sampleSafe x = true) :
    -(32767 * 2 ^ 149) ≤ units (fmul x pcmScale) ∧ units (fmul x pcmScale) ≤ 32767 * 2 ^ 149 := by
  obtain ⟨hfin, hlo, hhi⟩ := sampleSafe_bounds h
  obtain ⟨hscale, hunits⟩ : isFinite pcmScale = true ∧ units pcmScale = 32767 * 2 ^ 149 := by decide
  have hone : units one = 2 ^ 149 := by decide
  have hround := roundsTo_fmul hfin hscale
  rw [hunits] at hround
  have hbetween := hround.between (lo := fneg pcmScale) (Nat.two_pow_pos _) (by rwa [isFinite_fneg]) hscale
    (by rw [units_fneg, hunits]; push_cast; omega) (by rw [hunits]; push_cast; omega)
  rwa [units_fneg, hunits] at hbetween

theorem roundHalfAway_bounds {u : Int} {k : Nat} (hlo : -(k * 2 ^ 149) ≤ u) (hhi : u ≤ k * 2 ^ 149) :
    -(k : Int) ≤ roundHalfAway u ∧ roundHalfAway u ≤ k := by
  have hk : (2 * u.natAbs + 2 ^ 149) / 2 ^ 150 ≤ k := by omega
  unfold roundHalfAway
  split <;> omega

/-- Settles O53: the scaled word rounds into the range, and a number of that range needs 16 bits. -/
theorem sinkSamplesFitSixteenBits : Obligations.SinkSamplesFitSixteenBits := by
  unfold Obligations.SinkSamplesFitSixteenBits
  intro x hx
  obtain ⟨hlo, hhi⟩ := units_fmul_pcmScale hx
  obtain ⟨hl, hh⟩ := roundHalfAway_bounds (k := 32767) hlo hhi
  have hfits : (pcmSample x).toInt = roundHalfAway (units (fmul x pcmScale)) := by
    rw [pcmSample]
    exact BitVec.toInt_ofInt_eq_self (by decide) (by omega) (by omega)
  rw [hfits]
  exact ⟨hl, hh, rfl⟩

/-! ### The header's fields -/

@[simp] theorem length_bytesOfWord (w : Word) : (bytesOfWord w).length = 4 := rfl

@[simp] theorem length_bytesOfHalf (w : BitVec 16) : (bytesOfHalf w).length = 2 := rfl

theorem sinkHeader_length (channels : Nat) (rate : Word) (dataLength : Nat) :
    (sinkHeader channels rate dataLength).length = 44 := by
  simp only [sinkHeader, List.length_append, List.length_cons, List.length_nil, length_bytesOfWord, length_bytesOfHalf]

theorem sinkHeader_totalLength (channels : Nat) (rate : Word) (dataLength : Nat) :
    ((sinkHeader channels rate dataLength).drop 4).take 4 = bytesOfWord (BitVec.ofNat 32 (dataLength + 36)) := by
  simp only [sinkHeader, bytesOfWord, bytesOfHalf, List.cons_append, List.nil_append, List.drop_succ_cons,
    List.drop_zero, List.take_succ_cons, List.take_zero]

/-- The three fields of a file that depend on the sample rate and the channel count lie side by side. -/
theorem sinkFile_rateFields (channels frames : Nat) (s : State) :
    ((sinkFile channels frames s).drop 24).take 4 = bytesOfWord (sinkRate s.sampleRate) ∧
    ((sinkFile channels frames s).drop 28).take 4 =
      bytesOfWord (BitVec.ofNat 32 ((sinkRate s.sampleRate).toNat * blockAlign channels)) ∧
    ((sinkFile channels frames s).drop 32).take 2 = bytesOfHalf (BitVec.ofNat 16 (blockAlign channels)) := by
  simp only [sinkFile, sinkHeader, bytesOfWord, bytesOfHalf, List.cons_append, List.nil_append, List.drop_succ_cons,
    List.drop_zero, List.take_succ_cons, List.take_zero, and_self]

/-- Settles O54: the length field is the data length and the 36 bytes of the header after it. -/
theorem sinkHeaderCountsItsBytes : Obligations.SinkHeaderCountsItsBytes := by
  unfold Obligations.SinkHeaderCountsItsBytes
  intro channels rate dataLength
  have hsum : 44 - 8 + dataLength = dataLength + 36 := by omega
  have hread (w : Word) : wordsOfBytes (bytesOfWord w) = ([w], []) := wordsOfBytes_bytesOfWord_append w []
  rw [sinkHeader_length, sinkHeader_totalLength, hsum, hread]
  refine ⟨rfl, rfl, fun hfits => ?_⟩
  rw [List.map_singleton, BitVec.toNat_ofNat, Nat.mod_eq_of_lt hfits]

/-- Settles O55: an integral rate is its own conversion, and every field of the rate is made from it. -/
theorem sinkHeaderCarriesAnIntegralRate : Obligations.SinkHeaderCarriesAnIntegralRate := by
  unfold Obligations.SinkHeaderCarriesAnIntegralRate
  intro channels frames k s hchannels hk hfin hsign hmag
  have hrate : sinkRate s.sampleRate = BitVec.ofNat 32 k := by
    rw [sinkRate, integralRate_of_integer hfin hsign hk hmag, Option.getD_some]
  obtain ⟨hword, hbyteRate, halign⟩ := sinkFile_rateFields channels frames s
  rw [hword, hbyteRate, halign, hrate, BitVec.toNat_ofNat, Nat.mod_eq_of_lt hk]
  refine ⟨rfl, rfl, ?_⟩
  rcases hchannels with rfl | rfl <;> rfl

end Sys2Proof.Machine
end

section
/-! PROOFS. The message map of spec/30_encoding.md R110 as a relation between events and 24-bit messages, which the
decoder and the encoder both follow (O2, O3), and the classes without an effect (O22). -/

namespace Sys2Proof.Machine

/-! ### The fields of a message -/

/-- A message from its status byte and its two data bytes (30_encoding R105). -/
def message (st d1 d2 : Byte) : BitVec 24 := st ++ d1 ++ d2

theorem msg_eq_message (e : EventRecord) : e.msg = message e.st e.d1 e.d2 := rfl

theorem exists_message (msg : BitVec 24) : ∃ st d1 d2, msg = message st d1 d2 := by
  refine ⟨msg.extractLsb' 16 8, msg.extractLsb' 8 8, msg.extractLsb' 0 8, ?_⟩
  rw [message, BitVec.extractLsb'_append_extractLsb'_eq_extractLsb' (by decide),
    BitVec.extractLsb'_append_extractLsb'_eq_extractLsb' (by decide)]
  exact BitVec.extractLsb'_eq_self.symm

@[simp] theorem message_data2 (st d1 d2 : Byte) : (message st d1 d2).extractLsb' 0 8 = d2 :=
  BitVec.extractLsb'_append_eq_right

@[simp] theorem message_data1 (st d1 d2 : Byte) : (message st d1 d2).extractLsb' 8 8 = d1 :=
  (BitVec.extractLsb'_append_eq_of_le (Nat.le_refl 8)).trans BitVec.extractLsb'_append_eq_right

theorem message_status (st d1 d2 : Byte) {start : Nat} (len : Nat) (h : 16 ≤ start) :
    (message st d1 d2).extractLsb' start len = st.extractLsb' (start - 16) len := by
  rw [message, BitVec.extractLsb'_append_eq_of_le (by omega), BitVec.extractLsb'_append_eq_of_le (by omega), Nat.sub_sub]

theorem message_top (st d1 d2 : Byte) : (message st d1 d2)[23] = st[7] := by
  rw [BitVec.getElem_eq_extractLsb', BitVec.getElem_eq_extractLsb', message_status _ _ _ _ (by decide)]

section
variable (nib low : BitVec 4) (low7 : BitVec 7) (d1 d2 : Byte)

@[simp] theorem message_nibble : (message (nib ++ low) d1 d2).extractLsb' 20 4 = nib :=
  (message_status _ _ _ _ (by decide)).trans BitVec.extractLsb'_append_eq_left

@[simp] theorem message_low : (message (nib ++ low) d1 d2).extractLsb' 16 4 = low :=
  (message_status _ _ _ _ (by decide)).trans BitVec.extractLsb'_append_eq_right

@[simp] theorem message_nibble_top : (message (nib ++ low) d1 d2)[23] = nib[3] :=
  (message_top _ _ _).trans (BitVec.getElem_append (x := nib) (y := low) (by decide))

@[simp] theorem message_low7 : (message (0#1 ++ low7) d1 d2).extractLsb' 16 7 = low7 :=
  (message_status _ _ _ _ (by decide)).trans BitVec.extractLsb'_append_eq_right

@[simp] theorem message_data_top : (message (0#1 ++ low7) d1 d2)[23] = false :=
  (message_top _ _ _).trans (by revert low7; decide)

end

/-! ### The classes -/

/-- The message map of 30_encoding R110: the event, and a message of its class. -/
inductive EventClass : Instr → BitVec 24 → Prop
  /-- A status byte with its high bit clear -/
  | ignoredData (low : BitVec 7) (d1 d2 : Byte) : EventClass (.ignoredData low d1 d2) (message (0#1 ++ low) d1 d2)
  /-- Status nibble 0x8 -/
  | noteOff (chan : BitVec 4) (note vel : Byte) :
      EventClass (.noteOff chan note vel) (message (0x8#4 ++ chan) note vel)
  /-- Status nibble 0x9, velocity 0 -/
  | noteOnV0 (chan : BitVec 4) (note : Byte) : EventClass (.noteOnV0 chan note) (message (0x9#4 ++ chan) note 0#8)
  /-- Status nibble 0x9, velocity 1 to 255 -/
  | noteOn (chan : BitVec 4) (note vel : Byte) (hvel : vel ≠ 0#8) :
      EventClass (.noteOn chan note vel) (message (0x9#4 ++ chan) note vel)
  /-- Status nibble 0xA -/
  | ignoredA (low : BitVec 4) (d1 d2 : Byte) : EventClass (.ignoredA low d1 d2) (message (0xA#4 ++ low) d1 d2)
  /-- Status nibble 0xB -/
  | ignoredB (low : BitVec 4) (d1 d2 : Byte) : EventClass (.ignoredB low d1 d2) (message (0xB#4 ++ low) d1 d2)
  /-- Status nibble 0xC -/
  | ignoredC (low : BitVec 4) (d1 d2 : Byte) : EventClass (.ignoredC low d1 d2) (message (0xC#4 ++ low) d1 d2)
  /-- Status nibble 0xD -/
  | ignoredD (low : BitVec 4) (d1 d2 : Byte) : EventClass (.ignoredD low d1 d2) (message (0xD#4 ++ low) d1 d2)
  /-- Status nibble 0xE -/
  | ignoredE (low : BitVec 4) (d1 d2 : Byte) : EventClass (.ignoredE low d1 d2) (message (0xE#4 ++ low) d1 d2)
  /-- Status nibble 0xF -/
  | ignoredF (low : BitVec 4) (d1 d2 : Byte) : EventClass (.ignoredF low d1 d2) (message (0xF#4 ++ low) d1 d2)

theorem statusByte_cases (st : Byte) :
    (∃ low : BitVec 7, st = 0#1 ++ low) ∨ ∃ nib low : BitVec 4, 0x8#4 ≤ nib ∧ st = nib ++ low := by
  by_cases htop : 0x8#4 ≤ st.extractLsb' 4 4
  · exact .inr ⟨_, _, htop, (BitVec.extractLsb'_append_extractLsb' (w := 4) (len := 4) (x := st)).symm⟩
  · have hclear : st.extractLsb' 7 1 = 0#1 := by
      revert st
      decide
    have hsplit : st.extractLsb' 7 1 ++ st.extractLsb' 0 7 = st := BitVec.extractLsb'_append_extractLsb' (w := 1)
    exact .inl ⟨_, by rw [← hclear]; exact hsplit.symm⟩

/-- A status nibble with its high bit set is one of R110's eight. -/
theorem statusNibble_cases : ∀ nib : BitVec 4, 0x8#4 ≤ nib →
    nib = 0x8#4 ∨ nib = 0x9#4 ∨ nib = 0xA#4 ∨ nib = 0xB#4 ∨ nib = 0xC#4 ∨ nib = 0xD#4 ∨ nib = 0xE#4 ∨ nib = 0xF#4 := by
  decide

/-- Every message belongs to a class. -/
theorem exists_eventClass (msg : BitVec 24) : ∃ i, EventClass i msg := by
  obtain ⟨st, d1, d2, rfl⟩ := exists_message msg
  obtain ⟨low, rfl⟩ | ⟨nib, low, hnib, rfl⟩ := statusByte_cases st
  · exact ⟨_, .ignoredData low d1 d2⟩
  · obtain rfl | rfl | rfl | rfl | rfl | rfl | rfl | rfl := statusNibble_cases nib hnib
    · exact ⟨_, .noteOff low d1 d2⟩
    · by_cases hvel : d2 = 0#8
      · subst hvel
        exact ⟨_, .noteOnV0 low d1⟩
      · exact ⟨_, .noteOn low d1 d2 hvel⟩
    · exact ⟨_, .ignoredA low d1 d2⟩
    · exact ⟨_, .ignoredB low d1 d2⟩
    · exact ⟨_, .ignoredC low d1 d2⟩
    · exact ⟨_, .ignoredD low d1 d2⟩
    · exact ⟨_, .ignoredE low d1 d2⟩
    · exact ⟨_, .ignoredF low d1 d2⟩

/-- Every well-formed event has a message. -/
theorem exists_eventClass_of_wellFormed {i : Instr} (hwf : i.wellFormed = true) (hevent : i.isEvent = true) :
    ∃ msg, EventClass i msg := by
  cases i with
  | noteOff chan note vel => exact ⟨_, .noteOff chan note vel⟩
  | noteOnV0 chan note => exact ⟨_, .noteOnV0 chan note⟩
  | noteOn chan note vel => exact ⟨_, .noteOn chan note vel (of_decide_eq_true hwf)⟩
  | ignoredData low d1 d2 => exact ⟨_, .ignoredData low d1 d2⟩
  | ignoredA low d1 d2 => exact ⟨_, .ignoredA low d1 d2⟩
  | ignoredB low d1 d2 => exact ⟨_, .ignoredB low d1 d2⟩
  | ignoredC low d1 d2 => exact ⟨_, .ignoredC low d1 d2⟩
  | ignoredD low d1 d2 => exact ⟨_, .ignoredD low d1 d2⟩
  | ignoredE low d1 d2 => exact ⟨_, .ignoredE low d1 d2⟩
  | ignoredF low d1 d2 => exact ⟨_, .ignoredF low d1 d2⟩
  | prepare | configure | renderBlock | reservedCmd00 | reservedCmd04To07 | reservedCmd08To0F | reservedCmd10To1F
  | reservedCmd20To3F | reservedCmd40To7F | reservedCmd80ToFF => cases hevent

section
variable {i : Instr} {msg : BitVec 24}

theorem EventClass.isEvent (h : EventClass i msg) : i.isEvent = true := by cases h <;> rfl

theorem EventClass.wellFormed (h : EventClass i msg) : i.wellFormed = true := by
  cases h with
  | noteOn _ _ _ hvel => exact decide_eq_true hvel
  | _ => rfl

theorem EventClass.encode_eq (h : EventClass i msg) : encode i = [0#8 ++ msg] := by cases h <;> rfl

/-- The decoder reads the class from the status nibble, its high bit and the velocity. -/
theorem EventClass.decodeEvent_eq (h : EventClass i msg) : decodeEvent msg = i := by
  cases h with
  | noteOn _ _ _ hvel => simp [decodeEvent, hvel]
  | _ => simp [decodeEvent]

end

/-- Settles O2: the event is of the class of its message, and the word is that message under a reserved byte of 0. -/
theorem decodeReadsBackEveryEvent : Obligations.DecodeReadsBackEveryEvent := by
  unfold Obligations.DecodeReadsBackEveryEvent
  intro i hwf hevent
  obtain ⟨msg, hclass⟩ := exists_eventClass_of_wellFormed hwf hevent
  refine ⟨0#8 ++ msg, hclass.encode_eq, BitVec.extractLsb'_append_eq_left, ?_⟩
  rw [BitVec.extractLsb'_append_eq_right]
  exact hclass.decodeEvent_eq

/-- Settles O3: the message is of some class, and the decoded event is the event of that class. -/
theorem everyMessageHasOneClass : Obligations.EveryMessageHasOneClass := by
  unfold Obligations.EveryMessageHasOneClass
  intro msg
  obtain ⟨i, hclass⟩ := exists_eventClass msg
  rw [hclass.decodeEvent_eq]
  exact ⟨hclass.wellFormed, hclass.isEvent, hclass.encode_eq⟩

/-! ### The classes without an effect -/

/-- Settles O22: the meaning of each ignored row answers the state it is given. -/
theorem ignoredMessagesChangeNothing : Obligations.IgnoredMessagesChangeNothing := by
  unfold Obligations.IgnoredMessagesChangeNothing
  intro low7 low d1 d2 s
  exact ⟨rfl, rfl, rfl, rfl, rfl, rfl, rfl⟩

end Sys2Proof.Machine
end

section
/-! PROOFS. What the decoder answers for each command code (spec/30_encoding.md R101 to R104, R108): the length of a
transaction (O5), the bits it reads (O4) and the words the encoder writes (O1, O7). -/

namespace Sys2Proof.Machine

/-! ### The decoder, one command code at a time -/

section
variable {w0 : Word}

theorem decodeTransaction_prepare (h : commandCode w0 = 0x01#8) (sr : Word) (rest : List Word) :
    decodeTransaction (w0 :: sr :: rest) = .ok (.prepare sr, rest) := by
  rw [decodeTransaction, if_pos h]

theorem decodeTransaction_prepare_incomplete (h : commandCode w0 = 0x01#8) :
    decodeTransaction [w0] = .error (.incomplete 2 1) := by
  rw [decodeTransaction, if_pos h]

theorem decodeTransaction_configure (h : commandCode w0 = 0x02#8) (atk rel : Word) (rest : List Word) :
    decodeTransaction (w0 :: atk :: rel :: rest) = .ok (.configure (w0.getLsbD 8) atk rel, rest) := by
  rw [decodeTransaction, h]
  rfl

theorem decodeTransaction_configure_incomplete (h : commandCode w0 = 0x02#8) {ws : List Word} (hlen : ws.length < 2) :
    decodeTransaction (w0 :: ws) = .error (.incomplete 3 (1 + ws.length)) := by
  match ws, hlen with
  | [], _ | [_], _ =>
    rw [decodeTransaction, h]
    rfl

theorem decodeTransaction_render (h : commandCode w0 = 0x03#8) (ws : List Word) :
    decodeTransaction (w0 :: ws) = decodeRender w0 ws := by
  simp [decodeTransaction.eq_def, h]

theorem decodeTransaction_reserved (h1 : commandCode w0 ≠ 0x01#8) (h2 : commandCode w0 ≠ 0x02#8)
    (h3 : commandCode w0 ≠ 0x03#8) (ws : List Word) :
    decodeTransaction (w0 :: ws) = .ok (decodeReserved (commandCode w0), ws) := by
  simp [decodeTransaction.eq_def, h1, h2, h3]

theorem decodeRender_whole (n m : Word) {rest : List Word} (h : 2 * m.toNat ≤ rest.length) :
    decodeRender w0 (n :: m :: rest) =
      .ok (.renderBlock (w0.extractLsb' 8 2) n (decodeRecords (rest.take (2 * m.toNat))), rest.drop (2 * m.toNat)) :=
  if_neg (Nat.not_lt.mpr h)

theorem decodeRender_incomplete (n m : Word) {rest : List Word} (h : rest.length < 2 * m.toNat) :
    decodeRender w0 (n :: m :: rest) = .error (.incomplete (3 + 2 * m.toNat) (3 + rest.length)) :=
  if_pos h

theorem decodeRender_short {ws : List Word} (h : ws.length < 2) :
    decodeRender w0 ws = .error (.incomplete 3 (1 + ws.length)) := by
  match ws, h with
  | [], _ | [_], _ => rfl

/-! ### The length of a transaction -/

theorem transactionLength_prepare (h : commandCode w0 = 0x01#8) (ws : List Word) :
    transactionLength (w0 :: ws) = 2 := by
  rw [transactionLength, List.headD_cons, h]
  rfl

theorem transactionLength_configure (h : commandCode w0 = 0x02#8) (ws : List Word) :
    transactionLength (w0 :: ws) = 3 := by
  rw [transactionLength, List.headD_cons, h]
  rfl

theorem transactionLength_render (h : commandCode w0 = 0x03#8) (ws : List Word) :
    transactionLength (w0 :: ws) = 3 + 2 * (ws.getD 1 0#32).toNat := by
  rw [transactionLength, List.headD_cons, h]
  rfl

theorem transactionLength_reserved (h1 : commandCode w0 ≠ 0x01#8) (h2 : commandCode w0 ≠ 0x02#8)
    (h3 : commandCode w0 ≠ 0x03#8) (ws : List Word) : transactionLength (w0 :: ws) = 1 := by
  rw [transactionLength, List.headD_cons]
  split
  · contradiction
  · contradiction
  · contradiction
  · rfl

end

/-- What decoding a word list can answer: the transaction and the words after its length, or an error while fewer words
are there. -/
def DecodesByLength (ws : List Word) : Prop :=
  (transactionLength ws ≤ ws.length ∧ ∃ i, decodeTransaction ws = .ok (i, ws.drop (transactionLength ws))) ∨
  (ws.length < transactionLength ws ∧ ∃ e, decodeTransaction ws = .error e)

theorem decodesByLength_render {w0 : Word} (h : commandCode w0 = 0x03#8) (ws : List Word) :
    DecodesByLength (w0 :: ws) := by
  rw [DecodesByLength, transactionLength_render h, decodeTransaction_render h]
  match ws with
  | [] | [_] => exact .inr ⟨by simp, _, decodeRender_short (by simp)⟩
  | n :: m :: rest =>
    by_cases hlen : 2 * m.toNat ≤ rest.length
    · have hdrop : (w0 :: n :: m :: rest).drop (3 + 2 * m.toNat) = rest.drop (2 * m.toNat) := by
        rw [Nat.add_comm]
        rfl
      have hdecode := decodeRender_whole (w0 := w0) n m hlen
      rw [← hdrop] at hdecode
      exact .inl ⟨by simp; omega, _, hdecode⟩
    · exact .inr ⟨by simp; omega, _, decodeRender_incomplete n m (Nat.lt_of_not_le hlen)⟩

theorem decodesByLength_cons (w0 : Word) (ws : List Word) : DecodesByLength (w0 :: ws) := by
  by_cases h1 : commandCode w0 = 0x01#8
  · rw [DecodesByLength, transactionLength_prepare h1]
    match ws with
    | [] => exact .inr ⟨by simp, _, decodeTransaction_prepare_incomplete h1⟩
    | sr :: rest => exact .inl ⟨by simp, _, decodeTransaction_prepare h1 sr rest⟩
  by_cases h2 : commandCode w0 = 0x02#8
  · rw [DecodesByLength, transactionLength_configure h2]
    match ws with
    | [] | [_] => exact .inr ⟨by simp, _, decodeTransaction_configure_incomplete h2 (by simp)⟩
    | atk :: rel :: rest => exact .inl ⟨by simp, _, decodeTransaction_configure h2 atk rel rest⟩
  by_cases h3 : commandCode w0 = 0x03#8
  · exact decodesByLength_render h3 ws
  · rw [DecodesByLength, transactionLength_reserved h1 h2 h3]
    exact .inl ⟨by simp, _, decodeTransaction_reserved h1 h2 h3 ws⟩

/-- Settles O5: the two answers of the decoder go with the two sides of the length. -/
theorem lengthIsFixedByCommandAndCount : Obligations.LengthIsFixedByCommandAndCount := by
  unfold Obligations.LengthIsFixedByCommandAndCount
  intro ws hws
  obtain ⟨w0, rest, rfl⟩ := List.exists_cons_of_ne_nil hws
  obtain ⟨hlen, i, hdecode⟩ | ⟨hlen, e, hdecode⟩ := decodesByLength_cons w0 rest
  · simpa [hdecode] using hlen
  · simpa [hdecode] using hlen

/-! ### Reserved bits -/

/-- Words that agree in their low bits agree in every field among them. -/
theorem extractLsb'_congr_low {w w' : Word} {k start len : Nat} (h : w.extractLsb' 0 k = w'.extractLsb' 0 k)
    (hle : start + len ≤ k) : w.extractLsb' start len = w'.extractLsb' start len := by
  rw [← BitVec.extractLsb'_extractLsb'_of_le hle, h, BitVec.extractLsb'_extractLsb'_of_le hle]

/-- A PREPARE and a reserved command read nothing of their header but the command code. -/
theorem decodeTransaction_congr {w w' : Word} (h2 : commandCode w ≠ 0x02#8) (h3 : commandCode w ≠ 0x03#8)
    (hcode : commandCode w = commandCode w') (ws : List Word) :
    decodeTransaction (w :: ws) = decodeTransaction (w' :: ws) := by
  by_cases h1 : commandCode w = 0x01#8
  · match ws with
    | [] => rw [decodeTransaction_prepare_incomplete h1, decodeTransaction_prepare_incomplete (hcode ▸ h1)]
    | sr :: rest => rw [decodeTransaction_prepare h1, decodeTransaction_prepare (hcode ▸ h1)]
  · rw [decodeTransaction_reserved h1 h2 h3, decodeTransaction_reserved (hcode ▸ h1) (hcode ▸ h2) (hcode ▸ h3), hcode]

/-- A CONFIGURE reads bit 8 of its header besides. -/
theorem decodeTransaction_configure_congr {w w' : Word} (h : commandCode w = 0x02#8) (h' : commandCode w' = 0x02#8)
    (he : w.getLsbD 8 = w'.getLsbD 8) (ws : List Word) :
    decodeTransaction (w :: ws) = decodeTransaction (w' :: ws) := by
  match ws with
  | [] | [_] =>
    rw [decodeTransaction_configure_incomplete h (by simp), decodeTransaction_configure_incomplete h' (by simp)]
  | atk :: rel :: rest => rw [decodeTransaction_configure h, decodeTransaction_configure h', he]

/-- A RENDER_BLOCK reads bits 9:8 of its header besides. -/
theorem decodeTransaction_render_congr {w w' : Word} (h : commandCode w = 0x03#8) (h' : commandCode w' = 0x03#8)
    (hch : w.extractLsb' 8 2 = w'.extractLsb' 8 2) (ws : List Word) :
    decodeTransaction (w :: ws) = decodeTransaction (w' :: ws) := by
  rw [decodeTransaction_render h, decodeTransaction_render h']
  unfold decodeRender
  rw [hch]

/-- Settles O4: each command, and each record, reads no bit but the named ones. -/
theorem reservedBitsChangeNothing : Obligations.ReservedBitsChangeNothing := by
  unfold Obligations.ReservedBitsChangeNothing
  refine ⟨fun w w' ws h2 h3 h => decodeTransaction_congr h2 h3 h ws, fun w w' ws hcode h => ?_,
    fun w w' ws hcode h => ?_, fun wa wb wb' h => ?_⟩
  · have hcode' : commandCode w = commandCode w' := extractLsb'_congr_low h (by decide)
    refine decodeTransaction_configure_congr hcode (hcode' ▸ hcode) ?_ ws
    rw [BitVec.getLsbD_eq_extractLsb', BitVec.getLsbD_eq_extractLsb', extractLsb'_congr_low h (by decide)]
  · have hcode' : commandCode w = commandCode w' := extractLsb'_congr_low h (by decide)
    exact decodeTransaction_render_congr hcode (hcode' ▸ hcode) (extractLsb'_congr_low h (by decide)) ws
  · rw [decodeRecord, decodeRecord, extractLsb'_congr_low h (start := 16) (by decide),
      extractLsb'_congr_low h (start := 8) (by decide), extractLsb'_congr_low h (start := 0) (len := 8) (by decide)]

/-! ### Event records -/

theorem decodeRecord_encode (e : EventRecord) : decodeRecord e.ofs (0#8 ++ e.msg) = e := by
  have hlow {start : Nat} (h : start + 8 ≤ 24) :
      (0#8 ++ message e.st e.d1 e.d2).extractLsb' start 8 = (message e.st e.d1 e.d2).extractLsb' start 8 :=
    BitVec.extractLsb'_append_eq_of_add_le h
  rw [decodeRecord, msg_eq_message, hlow (by decide), hlow (by decide), hlow (by decide),
    message_data2, message_data1, message_status _ _ _ _ (by decide), Nat.sub_self, BitVec.extractLsb'_eq_self]

/-- Reading the records' words back, by induction on the list. -/
theorem decodeRecords_encode (evts : List EventRecord) : decodeRecords (evts.flatMap encodeRecord) = evts := by
  induction evts with
  | nil => rfl
  | cons e es ih =>
    rw [List.flatMap_cons, encodeRecord, List.cons_append, List.cons_append, List.nil_append, decodeRecords,
      decodeRecord_encode, ih]

theorem length_flatMap_encodeRecord (evts : List EventRecord) :
    (evts.flatMap encodeRecord).length = 2 * evts.length := by
  induction evts with
  | nil => rfl
  | cons e es ih =>
    rw [List.flatMap_cons, List.length_append, ih, List.length_cons, encodeRecord, List.length_cons,
      List.length_singleton]
    omega

theorem decodeRender_encode (w0 n : Word) (evts : List EventRecord) (rest : List Word) (hfits : evts.length < 2 ^ 32) :
    decodeRender w0 (n :: BitVec.ofNat 32 evts.length :: (evts.flatMap encodeRecord ++ rest)) =
      .ok (.renderBlock (w0.extractLsb' 8 2) n evts, rest) := by
  have hcount : 2 * (BitVec.ofNat 32 evts.length).toNat = (evts.flatMap encodeRecord).length := by
    rw [BitVec.toNat_ofNat, Nat.mod_eq_of_lt hfits, length_flatMap_encodeRecord]
  rw [decodeRender_whole n _ (by rw [hcount, List.length_append]; omega), hcount, List.take_left, List.drop_left,
    decodeRecords_encode]

/-! ### Reserved commands -/

theorem commandCode_headerWord (cmd : Byte) : commandCode (headerWord cmd) = cmd := by
  rw [commandCode, headerWord, BitVec.extractLsb'_setWidth_of_le (by decide), BitVec.extractLsb'_eq_self]

section
variable {i : Instr} {cmd : Byte}

/-- A reserved row is its command code in one word. -/
theorem encode_of_reservedRowCode (h : reservedRowCode i = some cmd) : encode i = [headerWord cmd] := by
  cases i <;> cases h <;> rfl

/-- The code of a reserved row reads back as the row, and it is the code of no other command. -/
theorem decodeReserved_of_reservedRowCode (h : reservedRowCode i = some cmd) :
    decodeReserved cmd = i ∧ cmd ≠ 0x01#8 ∧ cmd ≠ 0x02#8 ∧ cmd ≠ 0x03#8 := by
  cases i with
  | reservedCmd00 =>
    cases h
    decide
  | reservedCmd04To07 low | reservedCmd08To0F low | reservedCmd10To1F low | reservedCmd20To3F low
  | reservedCmd40To7F low | reservedCmd80ToFF low =>
    cases h
    revert low
    decide
  | _ => cases h

theorem decodeTransaction_of_reservedRowCode (h : reservedRowCode i = some cmd) (rest : List Word) :
    decodeTransaction (encode i ++ rest) = .ok (i, rest) := by
  obtain ⟨hdecode, h1, h2, h3⟩ := decodeReserved_of_reservedRowCode h
  rw [← commandCode_headerWord cmd] at h1 h2 h3
  rw [encode_of_reservedRowCode h, List.singleton_append, decodeTransaction_reserved h1 h2 h3, commandCode_headerWord,
    hdecode]

end

/-! ### Reading back -/

/-- Settles O1: each transaction's header names its command, and the operands stand after it. -/
theorem decodeReadsBackEveryTransaction : Obligations.DecodeReadsBackEveryTransaction := by
  unfold Obligations.DecodeReadsBackEveryTransaction
  intro i rest hwf hcommand
  cases i with
  | prepare sr => exact decodeTransaction_prepare (commandCode_headerWord _) sr rest
  | configure e atk rel =>
    have hbit : (0#23 ++ BitVec.ofBool e ++ 0x02#8).getLsbD 8 = e := by cases e <;> rfl
    exact (decodeTransaction_configure BitVec.extractLsb'_append_eq_right atk rel rest).trans (by rw [hbit])
  | renderBlock ch n evts =>
    have hch : (0#22 ++ ch ++ 0x03#8).extractLsb' 8 2 = ch :=
      (BitVec.extractLsb'_append_eq_of_le (Nat.le_refl 8)).trans BitVec.extractLsb'_append_eq_right
    have hfits : evts.length < 2 ^ 32 := of_decide_eq_true hwf
    calc decodeTransaction (encode (.renderBlock ch n evts) ++ rest)
        = decodeRender (0#22 ++ ch ++ 0x03#8)
            (n :: BitVec.ofNat 32 evts.length :: (evts.flatMap encodeRecord ++ rest)) :=
          decodeTransaction_render BitVec.extractLsb'_append_eq_right _
      _ = .ok (.renderBlock ch n evts, rest) := by rw [decodeRender_encode _ _ _ _ hfits, hch]
  | reservedCmd00 | reservedCmd04To07 | reservedCmd08To0F | reservedCmd10To1F | reservedCmd20To3F | reservedCmd40To7F
  | reservedCmd80ToFF => exact decodeTransaction_of_reservedRowCode rfl rest
  | noteOff | noteOnV0 | noteOn | ignoredData | ignoredA | ignoredB | ignoredC | ignoredD | ignoredE | ignoredF =>
    cases hcommand

/-! ### The worked lines -/

theorem AsmLine.isEvent_instr (l : AsmLine) : l.instr.isEvent = false := by cases l <;> rfl

/-- A text that is read as a line assembles to the line's words, and these decode to its instruction. -/
theorem assemble_of_readLine {text : List Char} {l : AsmLine} {ws : List Word} (hread : readLine text = some l)
    (hwords : l.words = ws) (hwf : l.instr.wellFormed = true) :
    readLine text = some l ∧ assemble text = some ws ∧ decodeTransaction ws = .ok (l.instr, []) := by
  subst hwords
  refine ⟨hread, by rw [assemble, hread, Option.map_some], ?_⟩
  have hdecode := decodeReadsBackEveryTransaction l.instr [] hwf l.isEvent_instr
  rwa [List.append_nil] at hdecode

/-- Settles O7: each text is read as its line, whose words are the listed ones. -/
theorem workedEncodingsReadBothWays : Obligations.WorkedEncodingsReadBothWays := by
  unfold Obligations.WorkedEncodingsReadBothWays
  simp only [List.forall_mem_cons, List.not_mem_nil, false_implies, implies_true, and_true]
  refine ⟨?_, ?_, ?_, ?_, ?_, ?_, ?_⟩ <;> exact assemble_of_readLine (by decide) (by decide) rfl

end Sys2Proof.Machine
end

section
/-! PROOFS. The increment for a zero and for a NaN sample rate (spec/40_oscillator.md R141; O26): the product with 2π stays
positive whatever it rounds to, and a positive value over +0 is infinite. -/

namespace Sys2Proof.Machine

/-! ### Positive values -/

theorem flt_posZero_iff {x : Real32} : flt posZero x = true ↔ isNaN x = false ∧ 0 < units x := by
  obtain ⟨hnan, hunits⟩ : isNaN posZero = false ∧ units posZero = 0 := by decide
  simp [flt_eq_true_iff, hnan, hunits]

theorem signBit_eq_false_of_units_pos {x : Real32} (h : 0 < units x) : signBit x = false :=
  signBit_eq_false_of_units_nonneg h.le (by rintro rfl; exact absurd h (by decide))

/-- A positive value, infinity included, divided by +0 (00_scope R11). -/
theorem fdiv_posZero_of_pos {x : Real32} (h : flt posZero x = true) : fdiv x posZero = infinity false := by
  obtain ⟨hnan, hpos⟩ := flt_posZero_iff.mp h
  obtain ⟨hzeroFin, hzeroMag, hzeroSign⟩ : isFinite posZero = true ∧ magnitude posZero = 0 ∧
      signBit posZero = false := by decide
  have hsign : (signBit x != signBit posZero) = false := by
    rw [signBit_eq_false_of_units_pos hpos, hzeroSign, bne_self_eq_false]
  rw [← hsign]
  rcases isFinite_or_isInf_of_isNaN_eq_false hnan with hfin | hinf
  · exact fdiv_by_zero hfin hzeroFin hzeroMag (mt (units_eq_zero_iff x).mpr hpos.ne')
  · exact fdiv_inf_finite hinf hzeroFin

/-- The product of a positive frequency with 2π is positive: it is at least the frequency, which is itself a binary32
value, so it does not round to zero; on overflow it is the positive infinity. -/
theorem fmul_twoPi_pos {hz : Real32} (h : flt posZero hz = true) : flt posZero (fmul hz twoPi) = true := by
  obtain ⟨hnan, hpos⟩ := flt_posZero_iff.mp h
  obtain ⟨hturnFin, hturnMag, hturnSign⟩ : isFinite twoPi = true ∧ magnitude twoPi ≠ 0 ∧
      signBit twoPi = false := by decide
  have hturn : 2 ^ 149 ≤ units twoPi := by decide
  have hprod : units hz * 2 ^ 149 ≤ units hz * units twoPi := Int.mul_le_mul_of_nonneg_left hturn hpos.le
  rcases isFinite_or_isInf_of_isNaN_eq_false hnan with hfin | hinf
  · have hround := roundsTo_fmul hfin hturnFin
    rw [RoundsTo] at hround
    split at hround
    next below =>
      obtain ⟨hresult, hnear⟩ := hround
      obtain ⟨hnearHz, -⟩ := hnear hz hfin
      exact flt_posZero_iff.mpr ⟨isNaN_of_isFinite hresult, by omega⟩
    next above =>
      rw [hround, decide_eq_false (by omega)]
      decide
  · rw [fmul_inf_finite hinf hturnFin hturnMag, signBit_eq_false_of_units_pos hpos, hturnSign]
    decide

/-! ### The increment -/

theorem oscIncrement_posZero_rate {hz : Real32} (h : flt posZero hz = true) :
    oscIncrement hz posZero = infinity false :=
  fdiv_posZero_of_pos (fmul_twoPi_pos h)

theorem isNaN_oscIncrement_zero_zero : isNaN (oscIncrement posZero posZero) = true := by
  rw [oscIncrement, show fmul posZero twoPi = posZero by decide]
  exact isNaN_fdiv_zero_zero (by decide) (by decide) (by decide) (by decide)

/-- Settles O26: the increment is the quotient of the product with 2π and the rate. -/
theorem zeroRateGivesInfiniteIncrement : Obligations.ZeroRateGivesInfiniteIncrement := by
  unfold Obligations.ZeroRateGivesInfiniteIncrement
  exact ⟨fun hz h => oscIncrement_posZero_rate h, isNaN_oscIncrement_zero_zero, fun hz sr h => isNaN_fdiv (.inr h)⟩

end Sys2Proof.Machine
end

section
/-! PROOFS. The envelope tick keeps a level in [0, 1] unless a NaN enters, and a NaN level stays (spec/41_envelope.md
R163, R164, R166; O27, O28, O29). -/

namespace Sys2Proof.Machine

/-! ### Sums without a NaN -/

theorem isNaN_infinity (neg : Bool) : isNaN (infinity neg) = false := by
  cases neg <;> decide

/-- A rounded exact value is a number: finite, or an infinity on overflow. -/
theorem RoundsTo.isNaN_eq_false {num : Int} {den : Nat} {r : Real32} (h : RoundsTo num den r) : isNaN r = false := by
  rw [RoundsTo] at h
  split at h
  next below => exact isNaN_of_isFinite h.1
  next above => rw [h, isNaN_infinity]

/-- Only opposite infinities have a NaN sum, so a finite operand excludes it. -/
theorem isNaN_addAs_of_isFinite (op : FloatOp) {a b : Real32} (ha : isFinite a = true) (hb : isNaN b = false) :
    isNaN (addAs op a b) = false := by
  rcases isFinite_or_isInf_of_isNaN_eq_false hb with hfin | hinf
  · exact (roundsTo_addAs ha hfin op).isNaN_eq_false
  · rwa [addAs_finite_inf hinf ha]

/-! ### The clamp -/

/-- Clamp01 returns a NaN unchanged and makes none (41_envelope R164). -/
@[simp] theorem isNaN_clamp01 (v : Real32) : isNaN (clamp01 v) = isNaN v := by
  unfold clamp01
  split
  next hone =>
    obtain ⟨-, hnan, -⟩ := flt_eq_true_iff.mp hone
    rw [hnan]
    decide
  next =>
    split
    next hzero =>
      obtain ⟨hnan, -, -⟩ := flt_eq_true_iff.mp hzero
      rw [hnan]
      decide
    next => rfl

/-- Clamp01 brings every number into [0, 1] (41_envelope R164). -/
theorem inUnit_clamp01 {v : Real32} (hnan : isNaN v = false) : inUnit (clamp01 v) = true := by
  unfold clamp01
  split
  next => decide
  next hone =>
    split
    next => decide
    next hzero =>
      have hle : units v ≤ units one := units_le_of_flt_eq_false (by decide) hnan (by simpa using hone)
      have hnonneg : units posZero ≤ units v := units_le_of_flt_eq_false hnan (by decide) (by simpa using hzero)
      rw [inUnit, Bool.and_eq_true, fle_eq_true_iff, fle_eq_true_iff]
      exact ⟨⟨by decide, hnan, hnonneg⟩, hnan, by decide, hle⟩

/-- [0, 1] lies in one turn, so its values are finite. -/
theorem isFinite_of_inUnit {x : Real32} (h : inUnit x = true) : isFinite x = true := by
  rw [inUnit, Bool.and_eq_true, fle_eq_true_iff (b := one)] at h
  obtain ⟨hnonneg, hnan, -, hle⟩ := h
  have hone : units one ≤ units twoPi := by decide
  have hturn : inTurn x = true := by
    rw [inTurn, hnonneg, Bool.true_and]
    exact fle_eq_true_iff.mpr ⟨hnan, by decide, hle.trans hone⟩
  exact ((inTurn_iff x).mp hturn).1

/-! ### The tick -/

section
variable (s : State)

/-- A tick returns the level it stores and writes nothing else (41_envelope R163). -/
theorem envTick_spec :
    envTick s = (clamp01 (fadd s.level s.slope), { s with level := clamp01 (fadd s.level s.slope) }) := rfl

@[simp] theorem envTick_level : (envTick s).2.level = clamp01 (fadd s.level s.slope) := rfl

@[simp] theorem envTick_slope : (envTick s).2.slope = s.slope := rfl

end

theorem inUnit_envTick {s : State} (hslope : isNaN s.slope = false) (hlevel : inUnit s.level = true) :
    inUnit (envTick s).2.level = true := by
  rw [envTick_level]
  exact inUnit_clamp01 (isNaN_addAs_of_isFinite .add (isFinite_of_inUnit hlevel) hslope)

theorem isNaN_envTick {s : State} (h : isNaN s.level = true ∨ isNaN s.slope = true) :
    isNaN (envTick s).2.level = true := by
  rw [envTick_level, isNaN_clamp01]
  exact isNaN_addAs .add h

/-- An infinite slope takes any finite level to the clamp of the infinity (41_envelope R163). -/
theorem envTick_of_isInf_slope {s : State} (hlevel : isFinite s.level = true) (hslope : isInf s.slope = true) :
    envTick s = (clamp01 s.slope, { s with level := clamp01 s.slope }) := by
  rw [envTick_spec, fadd, addAs_finite_inf hslope hlevel]

/-- Settles O27, by induction on the number of ticks: each keeps the level in [0, 1] and the slope as it is. -/
theorem envelopeStaysInTheUnitInterval : Obligations.EnvelopeStaysInTheUnitInterval := by
  unfold Obligations.EnvelopeStaysInTheUnitInterval
  intro n
  induction n with
  | zero => exact fun s _ hlevel => ⟨hlevel, rfl⟩
  | succ n ih =>
    intro s hslope hlevel
    rw [Function.iterate_succ_apply]
    exact ih (envTick s).2 hslope (inUnit_envTick hslope hlevel)

/-- Settles O28: the sum is the infinity, which the clamp takes to an end of [0, 1]. -/
theorem infiniteSlopeEndsTheRampInOneTick : Obligations.InfiniteSlopeEndsTheRampInOneTick := by
  unfold Obligations.InfiniteSlopeEndsTheRampInOneTick
  intro s hlevel
  have hfin := isFinite_of_inUnit hlevel
  refine ⟨fun hslope => ?up, fun hslope => ?down⟩
  case up =>
    have hclamp : clamp01 0x7F800000#32 = 0x3F800000#32 := by decide
    rw [envTick_of_isInf_slope hfin (by rw [hslope]; decide), hslope, hclamp]
  case down =>
    have hclamp : clamp01 0xFF800000#32 = 0x00000000#32 := by decide
    rw [envTick_of_isInf_slope hfin (by rw [hslope]; decide), hslope, hclamp]

/-! ### A voice with a NaN level -/

section
variable {s : State} (henv : s.envEn = true)
include henv

/-- A NaN level is not equal to +0.0, so the envelope never ends (93_implementation_defined I2). -/
theorem isSilent_of_isNaN_level (hnan : isNaN s.level = true) : isSilent s = false := by
  simp [isSilent, feq, henv, hnan]

/-- A sounding voice with the envelope on is scaled by the level after the tick (42_voice R186). -/
theorem renderOneSample_enveloped (hsounds : isSilent s = false) :
    renderOneSample s = (fmul (fmul (sine s.phase) s.peak) (clamp01 (fadd s.level s.slope)),
      { s with phase := oscAdvance s.phase s.inc, level := clamp01 (fadd s.level s.slope) }) := by
  rw [renderOneSample, if_neg (by simp [hsounds]), renderSounding]
  exact if_pos henv

end

/-- Settles O29: the clamp keeps the NaN of the sum, and the sample is a product with that level. -/
theorem naNLevelIsStuck : Obligations.NaNLevelIsStuck := by
  unfold Obligations.NaNLevelIsStuck
  intro s h
  refine ⟨isNaN_envTick h, fun hnan henv => ?_⟩
  have hsounds := isSilent_of_isNaN_level henv hnan
  refine ⟨hsounds, ?_⟩
  rw [renderOneSample_enveloped henv hsounds]
  exact isNaN_fmul (.inr (isNaN_envTick (.inl hnan)))

end Sys2Proof.Machine
end


section
/-! PROOFS. The voice: what a note message writes, what one sample of a silent and of a sounding voice does, and the
listed values of its two tables (spec/42_voice.md R181 to R187; O20, O21, O24, O30). -/

namespace Sys2Proof.Machine

/-! ### The note messages -/

theorem exec_noteOn (chan : BitVec 4) (note vel : Byte) (s : State) :
    exec (.noteOn chan note vel) s = .next (voiceNoteOn note vel s) := rfl

theorem exec_noteOff (chan : BitVec 4) (note vel : Byte) (s : State) :
    exec (.noteOff chan note vel) s = .next (voiceNoteOff note s) := rfl

theorem exec_noteOnV0 (chan : BitVec 4) (note : Byte) (s : State) :
    exec (.noteOnV0 chan note) s = .next (voiceNoteOff note s) := rfl

/-- Settles O20: VoiceNoteOn with its five formulas written out. -/
theorem noteOnRetunesTheVoice : Obligations.NoteOnRetunesTheVoice := by
  unfold Obligations.NoteOnRetunesTheVoice
  intro chan note vel s
  rw [exec_noteOn, voiceNoteOn_spec]
  rfl

section
variable {note : Byte} {s : State}

theorem voiceNoteOff_of_active (h : note = s.active) : voiceNoteOff note s =
    { s with active := 0#8, slope := releaseSlope s.sampleRate s.releaseS } := by
  rw [voiceNoteOff_spec, if_pos h]

/-- A stale note-off (42_voice R184). -/
theorem voiceNoteOff_of_stale (h : note ≠ s.active) : voiceNoteOff note s = s := by
  rw [voiceNoteOff_spec, if_neg h]

end

/-- Settles O21: NOTE_OFF and NOTE_ON_V0 are both VoiceNoteOff, which tests the note against `ACTIVE`. -/
theorem noteOffReleasesOnlyTheActiveNote : Obligations.NoteOffReleasesOnlyTheActiveNote := by
  unfold Obligations.NoteOffReleasesOnlyTheActiveNote
  intro chan note vel s
  rw [exec_noteOff, exec_noteOnV0]
  refine ⟨fun hactive => ?released, fun hstale => ?stale⟩
  case released =>
    rw [voiceNoteOff_of_active hactive]
    exact ⟨rfl, rfl⟩
  case stale =>
    rw [voiceNoteOff_of_stale hstale]
    exact ⟨rfl, rfl⟩

/-! ### One sample -/

/-- SILENT (10_state R48, 42_voice R185). -/
theorem isSilent_iff (s : State) :
    isSilent s = true ↔ s.active = 0#8 ∧ (s.envEn = false ∨ feq s.level posZero = true) := by
  simp [isSilent]

/-- A sounding voice with the envelope off is scaled by the peak alone and does not tick its envelope (42_voice R186,
41_envelope R165). -/
theorem renderOneSample_unenveloped {s : State} (henv : s.envEn = false) (hsounds : isSilent s = false) :
    renderOneSample s = (fmul (sine s.phase) s.peak, { s with phase := oscAdvance s.phase s.inc }) := by
  rw [renderOneSample, if_neg (by simp [hsounds]), renderSounding]
  exact if_neg (by simp [henv])

/-- Settles O24: the three cases of RenderOneSample, by SILENT and `ENV_EN`. -/
theorem oneSampleSoundsOrStaysStill : Obligations.OneSampleSoundsOrStaysStill := by
  unfold Obligations.OneSampleSoundsOrStaysStill
  intro s
  have sounds {s : State} (h : ¬ (s.active = 0#8 ∧ (s.envEn = false ∨ feq s.level posZero = true))) :
      isSilent s = false := Bool.eq_false_iff.mpr (mt (isSilent_iff s).mp h)
  refine ⟨fun hsilent => ?silent, fun hactive henv => ?plain, fun henv hsounding => ?enveloped⟩
  case silent => exact renderOneSample_silent ((isSilent_iff s).mpr hsilent)
  case plain => exact renderOneSample_unenveloped henv (sounds fun ⟨hnone, _⟩ => hactive hnone)
  case enveloped =>
    refine renderOneSample_enveloped henv (sounds ?_)
    rintro ⟨hnone, hended⟩
    rcases hsounding with hactive | hlevel
    · exact hactive hnone
    · rcases hended with hoff | hzero
      · exact absurd (henv.symm.trans hoff) (by decide)
      · exact absurd (hlevel.symm.trans hzero) (by decide)

/-! ### The tables -/

/-- The argument of EXP2 in NoteFrequency: the distance from A4 in octaves (42_voice R181). -/
def octavesFromA4 (n : Byte) : Real32 := fdiv (fsub (i2f n) a4Note) semitones

theorem noteFrequency_eq (n : Byte) : noteFrequency n = fmul a4Hz (exp2 (octavesFromA4 n)) := rfl

/-- A whole number of octaves away from A4, the frequency does not depend on the low bits of EXP2 (00_scope R16 (e)). -/
theorem noteFrequency_of_octaves {n : Byte} {k : Int} (hx : octavesFromA4 n ≠ negZero)
    (hf : isFinite (octavesFromA4 n) = true) (hu : units (octavesFromA4 n) = k * 2 ^ 149) (hlo : -126 ≤ k)
    (hhi : k ≤ 127) : noteFrequency n = fmul a4Hz (powerOfTwo k) := by
  rw [noteFrequency_eq, exp2_of_integer hx hf hu hlo hhi]

/-- Settles O30: the amplitudes evaluate, and the notes 57 and 69 are -1 and 0 octaves from A4. -/
theorem noteTablesHoldTheListedValues : Obligations.NoteTablesHoldTheListedValues := by
  unfold Obligations.NoteTablesHoldTheListedValues
  have h57 : noteFrequency 57#8 = fmul a4Hz (powerOfTwo (-1)) :=
    noteFrequency_of_octaves (by decide) (by decide) (by decide) (by decide) (by decide)
  have h69 : noteFrequency 69#8 = fmul a4Hz (powerOfTwo 0) :=
    noteFrequency_of_octaves (by decide) (by decide) (by decide) (by decide) (by decide)
  rw [h57, h69]
  decide

end Sys2Proof.Machine
end


section
/-! PROOFS. The words a span of frames leaves in `OUT`, and a block of a silent voice: every word is +0.0, which the guard
passes (spec/42_voice.md R187, spec/44_renderer.md R231, R233, spec/45_guard.md R246; O18). -/

namespace Sys2Proof.Machine

/-! ### Words of the buffer -/

/-- A word whose bytes are all kept reads as before. -/
theorem OutKeeps.memRead_eq {p : Nat → Prop} {s t : State} (h : OutKeeps p s t) (hwf : s.out.wf = true) {c f : Nat}
    (hp : ∀ a, outAddr c f ≤ a → a < outAddr c f + 4 → p a) : t.memRead c f = s.memRead c f := by
  obtain ⟨-, hkeep⟩ := h hwf
  unfold State.memRead Memory.readWord
  rw [hkeep _ (hp _ (by omega) (by omega)), hkeep _ (hp _ (by omega) (by omega)), hkeep _ (hp _ (by omega) (by omega)),
    hkeep _ (hp _ (by omega) (by omega))]

/-- No byte of a word of an earlier frame lies in a span. -/
theorem outsideSpan_of_word {channels start len c f a : Nat} (hlen : start + len ≤ 2 ^ 32) (hf : f < start)
    (ha : outAddr c f ≤ a) (ha' : a < outAddr c f + 4) : outsideSpan channels start len a := by
  intro d g _ hg hg'
  have := outAddr_disjoint (c := c) (f := f) (c' := d) (f' := g) (by omega) (by omega) (by omega)
  omega

/-! ### The renderer -/

/-- One frame holds the same value on every channel (44_renderer R231). -/
theorem writeChannels_memRead {channels f : Nat} (hf : f < 2 ^ 32) (v : Real32) {s : State} (hwf : s.out.wf = true)
    {c : Nat} (hc : c < channels) : (writeChannels channels f v s).memRead c f = v := by
  induction channels with
  | zero => omega
  | succ d ih =>
    obtain ⟨hwf', -⟩ := writeChannels_out d f v s hwf
    rw [writeChannels]
    rcases Nat.lt_succ_iff_lt_or_eq.mp hc with hlt | rfl
    · rw [State.memRead_memWrite_other v hwf' hf hf (by omega), ih hlt]
    · exact State.memRead_memWrite_same _ _ _ _ hwf'

theorem voiceAfter_setOut (j : Nat) (s : State) (o : Memory) : voiceAfter j (s.setOut o) = (voiceAfter j s).setOut o := by
  induction j generalizing s with
  | zero => rfl
  | succ j ih => rw [voiceAfter_succ, voiceAfter_succ, renderOneSample_setOut, ih]

theorem sampleAt_setOut (j : Nat) (s : State) (o : Memory) : sampleAt j (s.setOut o) = sampleAt j s := by
  rw [sampleAt, sampleAt, voiceAfter_setOut, renderOneSample_setOut]

theorem renderFrames_succ (channels len k : Nat) (s : State) : renderFrames channels (len + 1) k s =
    renderFrames channels len (k + 1) (writeChannels channels k (renderOneSample s).1 (renderOneSample s).2) := rfl

/-- Rendering `len` frames takes `len` samples of the voice and writes `OUT` (44_renderer R231). -/
theorem renderFrames_spec (channels len k : Nat) (s : State) :
    ∃ o, renderFrames channels len k s = (voiceAfter len s).setOut o := by
  induction len generalizing k s with
  | zero => exact ⟨s.out, rfl⟩
  | succ len ih =>
    obtain ⟨o, ho⟩ := writeChannels_spec channels k (renderOneSample s).1 (renderOneSample s).2
    obtain ⟨o', ho'⟩ := ih (k + 1) ((renderOneSample s).2.setOut o)
    refine ⟨o', ?_⟩
    rw [renderFrames_succ, ho, ho', voiceAfter_setOut, voiceAfter_succ]
    rfl

/-- Frame `k + j` of the frames from `k` on holds the sample `j` frames on, on every channel (44_renderer R231). -/
theorem renderFrames_memRead {channels len k : Nat} (hk : k + len ≤ 2 ^ 32) {s : State} (hwf : s.out.wf = true)
    {c j : Nat} (hc : c < channels) (hj : j < len) :
    (renderFrames channels len k s).memRead c (k + j) = sampleAt j s := by
  induction len generalizing k s j with
  | zero => omega
  | succ len ih =>
    obtain ⟨o, ho⟩ := writeChannels_spec channels k (renderOneSample s).1 (renderOneSample s).2
    have hwf' : (renderOneSample s).2.out.wf = true := by rwa [renderOneSample_out]
    obtain ⟨hwrite, -⟩ := writeChannels_out channels k (renderOneSample s).1 (renderOneSample s).2 hwf'
    rw [renderFrames_succ]
    cases j with
    | zero =>
      have hlater := (renderFrames_out channels len (k + 1) (writeChannels channels k (renderOneSample s).1
        (renderOneSample s).2)).memRead_eq (c := c) (f := k) hwrite
        fun a ha ha' => outsideSpan_of_word (by omega) (by omega) ha ha'
      exact hlater.trans (writeChannels_memRead (by omega) _ hwf' hc)
    | succ j =>
      rw [← Nat.add_assoc, Nat.add_right_comm, ih (by omega) hwrite (by omega), ho, sampleAt_setOut, sampleAt_succ]

/-! ### The guard -/

/-- A word the guard passes: neither NaN nor infinite, and not above 1.0 (45_guard R245). -/
theorem sampleSafe_spec {v : Real32} (h : sampleSafe v = true) :
    (isNaN v || isInf v) = false ∧ flt two (fabs v) = false ∧ flt one (fabs v) = false := by
  rw [sampleSafe, Bool.and_eq_true, fle_eq_true_iff] at h
  obtain ⟨hfin, -, -, hle⟩ := h
  have notAbove {limit : Real32} (hone : units one ≤ units limit) : flt limit (fabs v) = false := by
    rw [Bool.eq_false_iff, Ne, flt_eq_true_iff]
    omega
  exact ⟨by rw [isNaN_of_isFinite hfin, isInf_of_isFinite hfin]; rfl, notAbove (by decide), notAbove le_rfl⟩

/-- The scan leaves safe words as they are and flags nothing (45_guard R246). -/
theorem guardScan_of_safe {c start len todo k : Nat} {s : State}
    (h : ∀ f, k ≤ f → f < k + todo → sampleSafe (s.memRead c f) = true) (clamped : Bool) :
    guardScan c start len todo k clamped s = (clamped, s) := by
  induction todo generalizing k with
  | zero => rfl
  | succ todo ih =>
    obtain ⟨hfinite, htwo, hone⟩ := sampleSafe_spec (h k le_rfl (by omega))
    simp only [guardScan, hfinite, htwo, hone, Bool.false_eq_true, if_false]
    exact ih fun f hk hf => h f (by omega) (by omega)

theorem guardSlice_of_safe {c start len : Nat} {s : State}
    (h : ∀ f, start ≤ f → f < start + len → sampleSafe (s.memRead c f) = true) :
    guardSlice c start len s = s.setSliceClamped false := by
  rw [guardSlice, guardScan_of_safe h]

/-- On safe words the guard of a span changes transaction-local state only (45_guard R246). -/
theorem guardChannels_of_safe {start len channels : Nat} {s : State}
    (h : ∀ c f, c < channels → start ≤ f → f < start + len → sampleSafe (s.memRead c f) = true) :
    ∃ r, guardChannels start len channels s = s.setRender r := by
  induction channels with
  | zero => exact ⟨s.render, rfl⟩
  | succ c ih =>
    obtain ⟨r, hr⟩ := ih fun d f hd => h d f (by omega)
    have hslice : ∀ f, start ≤ f → f < start + len → sampleSafe ((s.setRender r).memRead c f) = true :=
      fun f => h c f (by omega)
    refine ⟨r.map fun r => { r with sliceClamped := false }, ?_⟩
    rw [guardChannels, hr, guardSlice_of_safe hslice]
    rfl

/-! ### A silent voice -/

theorem voiceAfter_silent {s : State} (h : isSilent s = true) (j : Nat) : voiceAfter j s = s := by
  induction j with
  | zero => rfl
  | succ j ih => rw [voiceAfter_succ, renderOneSample_silent h, ih]

theorem sampleAt_silent {s : State} (h : isSilent s = true) (j : Nat) : sampleAt j s = posZero := by
  rw [sampleAt, voiceAfter_silent h, renderOneSample_silent h]

/-- A span of a silent voice holds +0.0 in every word and changes `OUT` and transaction-local state only (42_voice R187,
44_renderer R233). -/
theorem renderSpan_silent {channels start len : Nat} (hlen : start + len ≤ 2 ^ 32) {s : State}
    (hsilent : isSilent s = true) (hwf : s.out.wf = true) :
    ∃ o r, renderSpan channels start len s = (s.setOut o).setRender r ∧
      ∀ c f, c < channels → start ≤ f → f < start + len → o.readWord (outAddr c f) = posZero := by
  obtain ⟨o, ho⟩ := renderFrames_spec channels len start s
  rw [voiceAfter_silent hsilent] at ho
  have hzero : ∀ c f, c < channels → start ≤ f → f < start + len → (s.setOut o).memRead c f = posZero := by
    intro c f hc hf hf'
    obtain ⟨j, rfl⟩ := Nat.exists_eq_add_of_le hf
    rw [← ho, renderFrames_memRead hlen hwf hc (by omega), sampleAt_silent hsilent]
  obtain ⟨r, hr⟩ := guardChannels_of_safe fun c f hc hf hf' =>
    (congrArg sampleSafe (hzero c f hc hf hf')).trans (by decide)
  exact ⟨o, r, by rw [renderSpan, ho, hr], hzero⟩

/-- A block without events renders one span, which is empty when it has no frames (43_scheduler R211). -/
theorem scheduleBlock_no_events (ch : BitVec 2) (n : Word) (s : State) :
    scheduleBlock ch n [] s = (renderSpan ch.toNat 0 n.toNat (s.beginRender ch n [])).setRender none := by
  show (advanceTo n (s.beginRender ch n [])).endRender = _
  rw [advanceTo]
  split
  next => rfl
  next hge =>
    have hn : n.toNat = 0 := Nat.eq_zero_of_not_pos hge
    obtain ⟨r, hr⟩ := guardChannels_of_safe (start := 0) (len := 0) (channels := ch.toNat) (s := s.beginRender ch n [])
      (by omega)
    rw [hn, renderSpan, renderFrames, hr]
    rfl

/-- A block of a silent voice without events holds +0.0 in every word and changes `OUT` only. -/
theorem scheduleBlock_silent (ch : BitVec 2) (n : Word) {s : State} (hrender : s.render = none)
    (hsilent : isSilent s = true) (hwf : s.out.wf = true) :
    ∃ o, scheduleBlock ch n [] s = s.setOut o ∧
      (∀ c f, c < ch.toNat → f < n.toNat → o.readWord (outAddr c f) = posZero) ∧
      (∀ a, outsideBlock ch.toNat n.toNat a → o.readByte a = s.out.readByte a) := by
  have hlen : 0 + n.toNat ≤ 2 ^ 32 := by omega
  obtain ⟨o, r, hspan, hzero⟩ := renderSpan_silent (channels := ch.toNat) (s := s.beginRender ch n []) hlen hsilent hwf
  obtain ⟨-, hframe⟩ := renderSpan_out ch.toNat 0 n.toNat (s.beginRender ch n []) hwf
  rw [hspan] at hframe
  refine ⟨o, ?_, fun c f hc hf => hzero c f hc (Nat.zero_le f) (by omega), fun a ha => ?_⟩
  · rw [scheduleBlock_no_events, hspan]
    show (s.setOut o).setRender none = s.setOut o
    rw [← hrender]
    rfl
  · exact hframe a fun c f hc _ hf => ha c f hc (by omega)

/-- RENDER_BLOCK without events passes its checks (46_host R253). -/
theorem renderCheck_no_events {ch : BitVec 2} {n : Word} (hch : ch = 1#2 ∨ ch = 2#2) (hn : n.toNat ≤ maxFrames) :
    renderCheck maxFrames maxEvents true ch n [] = none := by
  have hlegal : channelsLegal ch = true := by rcases hch with rfl | rfl <;> rfl
  simp [renderCheck, hlegal, checkEvents, Nat.not_lt.mpr hn]

/-- Settles O18: the block passes its checks, and its one span is silent. -/
theorem silentBlockWritesZeros : Obligations.SilentBlockWritesZeros := by
  unfold Obligations.SilentBlockWritesZeros
  intro ch n s hprepared hch hn hrender hsilent hwf
  obtain ⟨o, hblock, hzero, hframe⟩ := scheduleBlock_silent ch n hrender hsilent hwf
  refine ⟨o, ?_, hzero, hframe⟩
  show execRenderBlock ch n [] s = .next (s.setOut o)
  rw [execRenderBlock, hprepared, renderCheck_no_events hch hn, ← hblock]

end Sys2Proof.Machine
end


section
/-! PROOFS. The event rows and ApplyEvent (spec/43_scheduler.md R210; O6), the order of a note-on and a note-off (R214; O23),
and the step that runs the due event of a running RENDER_BLOCK (R211; O40). -/

namespace Sys2Proof.Machine

/-! ### The event rows -/

/-- What the scheduler does for a decoded message (43_scheduler R210). -/
def applyAction : EventAction → State → State
  | .noteOn n v, s => voiceNoteOn n v s
  | .noteOff n, s => voiceNoteOff n s
  | .ignore, s => s

theorem applyEvent_eq_applyAction (e : EventRecord) (s : State) : applyEvent e s = applyAction (decodeAction e.msg) s := by
  unfold applyEvent applyAction
  cases decodeAction e.msg <;> rfl

/-- The nibble of a status byte with its high bit clear is no note nibble. -/
theorem message_data_nibble_ne (low7 : BitVec 7) (d1 d2 : Byte) :
    (message (0#1 ++ low7) d1 d2).extractLsb' 20 4 ≠ 0x8#4 ∧ (message (0#1 ++ low7) d1 d2).extractLsb' 20 4 ≠ 0x9#4 := by
  rw [message_status _ _ _ _ (by decide)]
  revert low7
  decide

/-- An event row and the scheduler's decode of a message of its class mean the same, class by class. -/
theorem EventClass.exec_eq {i : Instr} {msg : BitVec 24} (h : EventClass i msg) (s : State) :
    exec i s = .next (applyAction (decodeAction msg) s) := by
  cases h with
  | ignoredData low d1 d2 =>
    obtain ⟨hoff, hon⟩ := message_data_nibble_ne low d1 d2
    rw [decodeAction, if_neg hoff, if_neg fun h => hon h.1, if_neg hon]
    rfl
  | noteOff chan note vel => simp [decodeAction, exec_noteOff, applyAction]
  | noteOnV0 chan note => simp [decodeAction, exec_noteOnV0, applyAction]
  | noteOn chan note vel hvel => simp [decodeAction, exec_noteOn, applyAction, hvel]
  | ignoredA | ignoredB | ignoredC | ignoredD | ignoredE | ignoredF =>
    rw [decodeAction, message_nibble]
    rfl

/-- The meaning of a record's row is ApplyEvent on the record (43_scheduler R210). -/
theorem exec_decodeEvent (e : EventRecord) (s : State) : exec (decodeEvent e.msg) s = .next (applyEvent e s) := by
  obtain ⟨i, hclass⟩ := exists_eventClass e.msg
  rw [hclass.decodeEvent_eq, hclass.exec_eq, applyEvent_eq_applyAction]

/-- Settles O6: the message is of some class, whose row and action agree. -/
theorem eventRowsAgreeWithApplyEvent : Obligations.EventRowsAgreeWithApplyEvent := by
  unfold Obligations.EventRowsAgreeWithApplyEvent
  exact exec_decodeEvent

/-! ### A note-on and a note-off at one offset -/

/-- A note-on overwrites both registers a note-off writes. -/
theorem voiceNoteOn_voiceNoteOff (a v b : Byte) (s : State) :
    voiceNoteOn a v (voiceNoteOff b s) = voiceNoteOn a v s := by
  by_cases h : b = s.active
  · rw [voiceNoteOff_of_active h]
    rfl
  · rw [voiceNoteOff_of_stale h]

/-- Settles O23: after the note-on, `ACTIVE` is its note, and the release slope is made of registers it keeps. -/
theorem stealThenReleaseFollowsListOrder : Obligations.StealThenReleaseFollowsListOrder := by
  unfold Obligations.StealThenReleaseFollowsListOrder
  intro c c' a b v v' s t u ht
  rw [exec_noteOn] at ht
  obtain rfl := Host.Outcome.next.inj ht
  have hactive : (voiceNoteOn a v s).active = a := by rw [voiceNoteOn_spec]
  obtain ⟨hrate, -, -, hrelease, -⟩ := voiceNoteOn_keeps a v s
  refine ⟨fun hab => ?stale, fun hu => ?before, ?after⟩
  case stale => rw [exec_noteOff, voiceNoteOff_of_stale (hactive ▸ hab.symm)]
  case before =>
    rw [exec_noteOff] at hu
    obtain rfl := Host.Outcome.next.inj hu
    rw [exec_noteOn, voiceNoteOn_voiceNoteOff]
  case after =>
    rw [exec_noteOff, voiceNoteOff_of_active hactive.symm, releaseSlope, hrate, hrelease]

/-! ### The due event -/

section
variable {s : State} {r : Render} {e : EventRecord} (hrender : s.render = some r)
include hrender

theorem nextEvent_render : s.nextEvent = { s with render := some { r with evtIndex := r.evtIndex + 1#32 } } := by
  rw [State.nextEvent, hrender]
  rfl

/-- Once the cursor has reached the next event, the step applies it (43_scheduler R211). -/
theorem step_due_event (hevent : r.event = some e) (hdue : ¬ r.cursor < e.ofs) :
    step s = .next (applyEvent e s).nextEvent := by
  have hfetch : fetch s = .event (decodeEvent e.msg) := by
    rw [fetch, hrender]
    simp only [fetchRender, hevent]
    exact if_neg hdue
  rw [step, hfetch]
  simp only [exec_decodeEvent, afterEvent]

end

/-- Settles O40: exec of the event's row is ApplyEvent, which leaves the transaction-local state as it is. -/
theorem runningStepAppliesTheDueEvent : Obligations.RunningStepAppliesTheDueEvent := by
  unfold Obligations.RunningStepAppliesTheDueEvent
  intro s r e hrender hevent hdue
  refine ⟨applyEvent e s, exec_decodeEvent e s, ?_⟩
  rw [step_due_event hrender hevent hdue, nextEvent_render ((applyEvent_render e s).trans hrender)]

end Sys2Proof.Machine
end


section
/-! PROOFS. A running RENDER_BLOCK stepped unit by unit (spec/43_scheduler.md R211, log entry 7): every step of a legal one
leaves it legal (O49), and the steps reach what ScheduleBlock gives at once (O50). -/

namespace Sys2Proof.Machine

/-! ### What a span does to the transaction-local state -/

theorem guardChannels_render (start len channels : Nat) {s : State} {r : Render} (hrender : s.render = some r) :
    ∃ b, (guardChannels start len channels s).render = some { r with sliceClamped := b } := by
  induction channels with
  | zero => exact ⟨r.sliceClamped, hrender⟩
  | succ c ih =>
    obtain ⟨b, hb⟩ := ih
    obtain ⟨o, d, b', h⟩ := guardSlice_spec c start len (guardChannels start len c s)
    refine ⟨b', ?_⟩
    rw [guardChannels, h, State.setSliceClamped, State.setRender_render, State.setGuardDiag_render,
      State.setOut_render, hb]
    rfl

/-- The transaction-local state once every frame before `t` is rendered. -/
def Render.advanced (r : Render) (t : Word) (b : Bool) : Render :=
  { r with cursor := if r.cursor < t then t else r.cursor, sliceClamped := b }

/-- A span moves the cursor up to its end (43_scheduler R211). -/
theorem advanceTo_render (t : Word) {s : State} {r : Render} (hrender : s.render = some r) :
    ∃ b, (advanceTo t s).render = some (r.advanced t b) := by
  have hcursor : s.cursor = r.cursor := by rw [State.cursor, hrender]
  unfold advanceTo Render.advanced
  rw [hcursor]
  split
  next =>
    have hframes := (renderFrames_render s.channelCount (t.toNat - r.cursor.toNat) r.cursor.toNat s).trans hrender
    obtain ⟨b, hb⟩ := guardChannels_render r.cursor.toNat (t.toNat - r.cursor.toNat) s.channelCount hframes
    refine ⟨b, ?_⟩
    rw [State.setCursor, State.setRender_render, renderSpan, hb]
    rfl
  next => exact ⟨r.sliceClamped, hrender⟩

theorem Render.advanced_cursor_not_lt (r : Render) (t : Word) (b : Bool) : ¬ (r.advanced t b).cursor < t := by
  unfold advanced
  split
  · exact BitVec.lt_irrefl t
  · assumption

/-- The cursor of a running block does not move again to where it stands. -/
theorem advanceTo_advanceTo {s : State} {r : Render} (hrender : s.render = some r) (t : Word) :
    advanceTo t (advanceTo t s) = advanceTo t s := by
  obtain ⟨b, hb⟩ := advanceTo_render t hrender
  have hcursor : ¬ (advanceTo t s).cursor < t := by
    rw [State.cursor, hb]
    exact r.advanced_cursor_not_lt t b
  exact if_neg hcursor

/-! ### The next unit of work -/

/-- The frame up to which the block renders next: the offset of the event at `EVT_INDEX`, or N after the last event. -/
def Render.target (r : Render) : Word := (r.event.map EventRecord.ofs).getD r.frames

theorem Render.event_eq_head? (r : Render) : r.event = r.pending.head? := List.head?_drop.symm

theorem Render.target_of_pending_nil {r : Render} (h : r.pending = []) : r.target = r.frames := by
  rw [target, event_eq_head?, h]
  rfl

theorem Render.target_of_pending_cons {r : Render} {e : EventRecord} {es : List EventRecord} (h : r.pending = e :: es) :
    r.target = e.ofs := by
  rw [target, event_eq_head?, h]
  rfl

/-- Before the target a span comes next (43_scheduler R211). -/
theorem fetchRender_of_cursor_lt {r : Render} (h : r.cursor < r.target) : fetchRender r = fetchSpan r r.target := by
  unfold Render.target at *
  unfold fetchRender
  cases hevent : r.event with
  | none =>
    rw [hevent] at h
    exact if_pos h
  | some e =>
    rw [hevent] at h
    exact if_pos h

/-! ### Legal transactions -/

section
variable {r : Render} (h : RenderLegal r)
include h

theorem RenderLegal.target_le_frames : r.target ≤ r.frames := by
  obtain ⟨-, -, -, -, ⟨hofs, -⟩, -⟩ := h
  cases hpending : r.pending with
  | nil =>
    rw [Render.target_of_pending_nil hpending]
    exact BitVec.le_refl _
  | cons e es =>
    rw [Render.target_of_pending_cons hpending]
    exact BitVec.le_of_lt (hofs e (List.mem_of_mem_drop (hpending ▸ List.mem_cons_self)))

/-- The list is ordered, so no pending event lies before the target. -/
theorem RenderLegal.target_le_pending : ∀ e ∈ r.pending, r.target ≤ e.ofs := by
  obtain ⟨-, -, -, -, ⟨-, hordered⟩, -⟩ := h
  have hpairwise : r.pending.Pairwise fun a b => a.ofs ≤ b.ofs := hordered.sublist (List.drop_sublist ..)
  cases hpending : r.pending with
  | nil => simp
  | cons e es =>
    rw [Render.target_of_pending_cons hpending]
    rw [hpending] at hpairwise
    exact List.forall_mem_cons.mpr ⟨BitVec.le_refl _, fun _ => List.rel_of_pairwise_cons hpairwise⟩

theorem RenderLegal.advanced (b : Bool) : RenderLegal (r.advanced r.target b) := by
  have hframes := h.target_le_frames
  have hpending := h.target_le_pending
  obtain ⟨hchannels, hcursor, hlength, hindex, hevents, hwaiting⟩ := h
  unfold Render.advanced
  split
  · exact ⟨hchannels, hframes, hlength, hindex, hevents, hpending⟩
  · exact ⟨hchannels, hcursor, hlength, hindex, hevents, hwaiting⟩

/-- `EVT_INDEX` counts up to the length of the list, which 32 bits hold. -/
theorem RenderLegal.pending_next {e : EventRecord} {es : List EventRecord} (hpending : r.pending = e :: es) :
    (r.evtIndex + 1#32).toNat = r.evtIndex.toNat + 1 ∧ r.evtIndex.toNat < r.events.length ∧
      { r with evtIndex := r.evtIndex + 1#32 }.pending = es := by
  obtain ⟨-, -, hlength, -, -, -⟩ := h
  have hlt : r.evtIndex.toNat < r.events.length := by
    by_contra hge
    have hnil : r.pending = [] := List.drop_of_length_le (by omega)
    exact absurd (hnil.symm.trans hpending) (by simp)
  have hnext : (r.evtIndex + 1#32).toNat = r.evtIndex.toNat + 1 := by
    rw [BitVec.toNat_add]
    exact Nat.mod_eq_of_lt (by simpa using (by omega : r.evtIndex.toNat + 1 < 2 ^ 32))
  refine ⟨hnext, hlt, ?_⟩
  show r.events.drop (r.evtIndex + 1#32).toNat = es
  rw [hnext, ← List.tail_drop]
  exact congrArg List.tail hpending

theorem RenderLegal.nextEvent {e : EventRecord} {es : List EventRecord} (hpending : r.pending = e :: es) :
    RenderLegal { r with evtIndex := r.evtIndex + 1#32 } := by
  obtain ⟨hnext, hlt, hrest⟩ := h.pending_next hpending
  obtain ⟨hchannels, hcursor, hlength, -, hevents, hwaiting⟩ := h
  refine ⟨hchannels, hcursor, hlength, hnext.trans_le hlt, hevents, fun e' he' => hwaiting e' ?_⟩
  rw [hpending]
  exact List.mem_cons_of_mem e (hrest ▸ he')

end

/-! ### One step of a running block -/

section
variable {s : State} {r : Render} (hrender : s.render = some r)
include hrender

/-- The span up to the target touches existing words only (20_memory R71). -/
theorem step_span (hlegal : RenderLegal r) (hlt : r.cursor < r.target) : step s = .next (advanceTo r.target s) := by
  have hexists : spanExists r r.target = true := by
    have hchannels : channelsLegal r.channels = true := hlegal.1
    simp [spanExists, hchannels, hlegal.target_le_frames]
  have hfetch : fetch s = .span r.target := by
    rw [fetch, hrender]
    exact (fetchRender_of_cursor_lt hlt).trans (if_pos hexists)
  rw [step, hfetch]

/-- After the last event and the last frame the transaction ends (43_scheduler R211). -/
theorem step_finish (hpending : r.pending = []) (hdone : ¬ r.cursor < r.frames) : step s = .next s.endRender := by
  have hevent : r.event = none := by
    rw [r.event_eq_head?, hpending]
    rfl
  have hfetch : fetch s = .finish := by
    rw [fetch, hrender]
    simp only [fetchRender, hevent]
    exact if_neg hdone
  rw [step, hfetch]

theorem runLegal_of_render (hlegal : RenderLegal r) : s.RunLegal := by
  intro r' hr'
  obtain rfl := Option.some.inj (hrender.symm.trans hr')
  exact hlegal

end

theorem runLegal_of_render_none {s : State} (hrender : s.render = none) : s.RunLegal := by
  intro r hr
  exact absurd (hrender.symm.trans hr) (by simp)

/-! ### One step between transactions -/

/-- No instruction leaves a transaction running that did not run before it. -/
theorem ExecEffect.render_eq_none {i : Instr} {s t : State} (h : ExecEffect s i t) (hrender : s.render = none) :
    t.render = none := by
  cases h with
  | schedule ch n evts => exact scheduleBlock_render ch n evts s
  | noteOff | noteOnV0 =>
    rw [voiceNoteOff_spec]
    split <;> exact hrender
  | noteOn =>
    rw [voiceNoteOn_spec]
    exact hrender
  | prepare | configure | renderFault | reserved | ignored => exact hrender

/-- Between transactions the block waits or runs the port's next transaction whole (46_host R250). -/
theorem step_idle {s : State} (hrender : s.render = none) : ∃ t, step s = .next t ∧ t.render = none := by
  unfold step
  rw [fetch, hrender]
  simp only [fetchTransaction]
  cases decodeTransaction s.port with
  | error e => exact ⟨s, rfl, hrender⟩
  | ok c =>
    obtain ⟨i, rest⟩ := c
    obtain ⟨t, hexec, heffect⟩ := exists_exec_effect i (s.setPort rest)
    exact ⟨t, hexec, heffect.render_eq_none hrender⟩

/-- Settles O49: between transactions none is left running; a running one does its span, its due event or its end, each of
which keeps it legal. -/
theorem stepNeverLeavesTheBuffer : Obligations.StepNeverLeavesTheBuffer := by
  unfold Obligations.StepNeverLeavesTheBuffer
  intro s hs
  cases hrender : s.render with
  | none =>
    obtain ⟨t, hstep, ht⟩ := step_idle hrender
    exact ⟨t, hstep, runLegal_of_render_none ht⟩
  | some r =>
    have hlegal := hs r hrender
    by_cases hlt : r.cursor < r.target
    · obtain ⟨b, hb⟩ := advanceTo_render r.target hrender
      exact ⟨_, step_span hrender hlegal hlt, runLegal_of_render hb (hlegal.advanced b)⟩
    · cases hpending : r.pending with
      | nil =>
        rw [Render.target_of_pending_nil hpending] at hlt
        exact ⟨_, step_finish hrender hpending hlt, runLegal_of_render_none rfl⟩
      | cons e es =>
        rw [Render.target_of_pending_cons hpending] at hlt
        have hevent : r.event = some e := by
          rw [r.event_eq_head?, hpending]
          rfl
        refine ⟨_, step_due_event hrender hevent hlt, ?_⟩
        rw [nextEvent_render ((applyEvent_render e s).trans hrender)]
        exact runLegal_of_render rfl (hlegal.nextEvent hpending)

/-! ### The steps of a whole block -/

theorem run_succ_of_step {M : Host.Core} {s t : M.State} (hstep : M.step s = .next t) (k : Nat) :
    M.run (k + 1) s = M.run k t := by
  rw [Host.Core.run, hstep]

/-- At most `bound` steps lead from `s` to `u`. -/
def ReachesWithin (bound : Nat) (s u : State) : Prop :=
  ∃ k, k ≤ bound ∧ Host.Core.run Sys2Proof.core k s = .next u

theorem ReachesWithin.refl (s : State) : ReachesWithin 0 s s := ⟨0, le_rfl, rfl⟩

theorem ReachesWithin.of_step {bound : Nat} {s t u : State} (hstep : step s = .next t) (h : ReachesWithin bound t u) :
    ReachesWithin (bound + 1) s u := by
  obtain ⟨k, hk, hrun⟩ := h
  exact ⟨k + 1, Nat.succ_le_succ hk, (run_succ_of_step (M := Sys2Proof.core) hstep k).trans hrun⟩

/-- One step at most renders the frames before the target. -/
theorem ReachesWithin.of_advanceTo {bound : Nat} {s u : State} {r : Render} (hrender : s.render = some r)
    (hlegal : RenderLegal r) (h : ReachesWithin bound (advanceTo r.target s) u) : ReachesWithin (bound + 1) s u := by
  by_cases hlt : r.cursor < r.target
  · exact h.of_step (step_span hrender hlegal hlt)
  · have hstay : advanceTo r.target s = s := by
      rw [advanceTo, State.cursor, hrender]
      exact if_neg hlt
    obtain ⟨k, hk, hrun⟩ := hstay ▸ h
    exact ⟨k, hk.trans (Nat.le_succ bound), hrun⟩

/-- A legal running block reaches the rest of ScheduleBlock, by induction on the pending events: a span and an event each,
then a span and the end. -/
theorem reachesWithin_finishBlock {es : List EventRecord} {s : State} {r : Render} (hrender : s.render = some r)
    (hlegal : RenderLegal r) (hpending : r.pending = es) :
    ReachesWithin (2 * es.length + 2) s (finishBlock r.frames es s) := by
  induction es generalizing s r with
  | nil =>
    refine ReachesWithin.of_advanceTo hrender hlegal ?_
    obtain ⟨b, hb⟩ := advanceTo_render r.target hrender
    have hdone := r.advanced_cursor_not_lt r.target b
    rw [Render.target_of_pending_nil hpending] at hb hdone ⊢
    exact (ReachesWithin.refl _).of_step (step_finish hb hpending hdone)
  | cons e es ih =>
    refine ReachesWithin.of_advanceTo hrender hlegal ?_
    obtain ⟨b, hb⟩ := advanceTo_render r.target hrender
    have hadvanced := hlegal.advanced b
    have hdue := r.advanced_cursor_not_lt r.target b
    rw [Render.target_of_pending_cons hpending] at hb hdue hadvanced ⊢
    have hevent : (r.advanced e.ofs b).event = some e := by
      rw [Render.event_eq_head?]
      exact congrArg List.head? hpending
    have hnext : (scheduleEvent s e).render = some { r.advanced e.ofs b with evtIndex := r.evtIndex + 1#32 } := by
      rw [scheduleEvent, nextEvent_render ((applyEvent_render e _).trans hb)]
      rfl
    obtain ⟨-, -, hrest⟩ := hadvanced.pending_next hpending
    exact (ih hnext (hadvanced.nextEvent hpending) hrest).of_step (step_due_event hb hevent hdue)

/-- Settles O50: the stepped block by induction on its pending events; an accepted one is its own rest from the start. -/
theorem steppedBlockEqualsScheduleBlock : Obligations.SteppedBlockEqualsScheduleBlock := by
  unfold Obligations.SteppedBlockEqualsScheduleBlock
  refine ⟨fun s r hrender hlegal => reachesWithin_finishBlock hrender hlegal rfl, fun ch n evts s hcheck => ?_⟩
  show execRenderBlock ch n evts s = .next (scheduleBlock ch n evts s)
  rw [execRenderBlock, hcheck]

end Sys2Proof.Machine
end


section
/-! PROOFS. The plan of a RENDER_BLOCK (spec/43_scheduler.md R211): ScheduleBlock makes its calls (O51), and for a legal event
list it covers every frame once, the events in place (R212, R213, R217; O52). -/

namespace Sys2Proof.Machine

/-! ### Operations that do not read the transaction-local state -/

/-- What `f` gives, but for the transaction-local state, does not depend on the transaction-local state. -/
def IgnoresRender (f : State → State) : Prop := ∀ s t : State, s.endRender = t.endRender → (f s).endRender = (f t).endRender

theorem IgnoresRender.comp {f g : State → State} (hg : IgnoresRender g) (hf : IgnoresRender f) :
    IgnoresRender fun s => g (f s) := fun s t h => hg _ _ (hf s t h)

/-- An operation that commutes with writes to the transaction-local state. -/
theorem IgnoresRender.of_commutes {f : State → State} (h : ∀ s r, f (s.setRender r) = (f s).setRender r) :
    IgnoresRender f := fun s t hst =>
  calc (f s).endRender = f s.endRender := (h s none).symm
    _ = f t.endRender := congrArg f hst
    _ = (f t).endRender := h t none

theorem renderOneSample_setRender (s : State) (r : Option Render) :
    renderOneSample (s.setRender r) = ((renderOneSample s).1, (renderOneSample s).2.setRender r) := by
  unfold renderOneSample renderSounding
  rw [show isSilent (s.setRender r) = isSilent s from rfl]
  split
  · rfl
  · dsimp only [oscTick]
    rw [State.setPhase_envEn, State.setPhase_envEn, State.setRender_envEn]
    split <;> rfl

theorem writeChannels_setRender (channels f : Nat) (v : Real32) (s : State) (r : Option Render) :
    writeChannels channels f v (s.setRender r) = (writeChannels channels f v s).setRender r := by
  induction channels with
  | zero => rfl
  | succ c ih =>
    rw [writeChannels, ih]
    rfl

theorem renderFrames_setRender (channels len f : Nat) (s : State) (r : Option Render) :
    renderFrames channels len f (s.setRender r) = (renderFrames channels len f s).setRender r := by
  induction len generalizing f s with
  | zero => rfl
  | succ len ih =>
    simp only [renderFrames]
    rw [renderOneSample_setRender, writeChannels_setRender, ih]

theorem zeroSlice_setRender (c len k : Nat) (s : State) (r : Option Render) :
    zeroSlice c len k (s.setRender r) = (zeroSlice c len k s).setRender r := by
  induction len generalizing k s with
  | zero => rfl
  | succ len ih => exact ih (k + 1) (s.memWrite c k posZero)

theorem flagClamp_setRender (clamped : Bool) (s : State) (r : Option Render) :
    flagClamp clamped (s.setRender r) = (flagClamp clamped s).setRender r := by
  cases clamped <;> rfl

theorem guardScan_setRender (c start len todo k : Nat) (clamped : Bool) (s : State) (r : Option Render) :
    guardScan c start len todo k clamped (s.setRender r) =
      ((guardScan c start len todo k clamped s).1, (guardScan c start len todo k clamped s).2.setRender r) := by
  induction todo generalizing k clamped s with
  | zero => rfl
  | succ todo ih =>
    have hread : (s.setRender r).memRead c k = s.memRead c k := rfl
    have hwrite (v : Real32) : (s.setRender r).memWrite c k v = (s.memWrite c k v).setRender r := rfl
    simp only [guardScan, hread, hwrite, zeroSlice_setRender, flagClamp_setRender, ih]
    split
    · rfl
    split
    · rfl
    split <;> rfl

/-- The guard writes `SLICE_CLAMPED` and reads no transaction-local state (45_guard R241). -/
theorem guardSlice_ignoresRender (c start len : Nat) : IgnoresRender (guardSlice c start len) :=
  IgnoresRender.of_commutes (f := fun s => (guardScan c start len len start false s).2) fun s r =>
    congrArg Prod.snd (guardScan_setRender c start len len start false s r)

theorem guardChannels_ignoresRender (start len channels : Nat) : IgnoresRender (guardChannels start len channels) := by
  induction channels with
  | zero => exact fun _ _ h => h
  | succ c ih => exact (guardSlice_ignoresRender c start len).comp ih

theorem renderSpan_ignoresRender (channels start len : Nat) : IgnoresRender (renderSpan channels start len) :=
  (guardChannels_ignoresRender start len channels).comp (.of_commutes (renderFrames_setRender channels len start))

theorem applyEvent_setRender (e : EventRecord) (s : State) (r : Option Render) :
    applyEvent e (s.setRender r) = (applyEvent e s).setRender r := by
  rw [applyEvent_eq_applyAction, applyEvent_eq_applyAction]
  cases decodeAction e.msg with
  | noteOff n =>
    simp only [applyAction]
    rw [voiceNoteOff_spec, voiceNoteOff_spec, State.setRender_active]
    split <;> rfl
  | noteOn | ignore => rfl

theorem applyEvent_ignoresRender (e : EventRecord) : IgnoresRender (applyEvent e) :=
  .of_commutes (applyEvent_setRender e)

/-! ### ScheduleBlock and its plan -/

theorem blockPlan_cons (n cursor : Nat) (e : EventRecord) (es : List EventRecord) :
    blockPlan n cursor (e :: es) =
      planSpan cursor e.ofs.toNat ++ .event e :: blockPlan n (max cursor e.ofs.toNat) es := rfl

theorem advanceTo_cursor {s : State} {r : Render} (hrender : s.render = some r) (t : Word) :
    (advanceTo t s).cursor.toNat = max s.cursor.toNat t.toNat := by
  obtain ⟨b, hb⟩ := advanceTo_render t hrender
  rw [State.cursor, State.cursor, hb, hrender]
  show (if r.cursor < t then t else r.cursor).toNat = max r.cursor.toNat t.toNat
  split
  next hlt => exact (Nat.max_eq_right (Nat.le_of_lt hlt)).symm
  next hge => exact (Nat.max_eq_left (Nat.le_of_not_lt hge)).symm

/-- Moving the cursor makes the call of the plan's span, if there is one. -/
theorem advanceTo_endRender {s t : State} (h : s.endRender = t.endRender) (upTo : Word) :
    (advanceTo upTo s).endRender =
      ((planSpan s.cursor.toNat upTo.toNat).foldl (runItem s.channelCount) t).endRender := by
  by_cases hlt : s.cursor < upTo
  · rw [advanceTo, planSpan, if_pos hlt, if_pos (BitVec.lt_def.mp hlt)]
    exact renderSpan_ignoresRender _ _ _ s t h
  · rw [advanceTo, planSpan, if_neg hlt, if_neg (mt BitVec.lt_def.mpr hlt)]
    exact h

theorem scheduleEvent_render {s : State} {r : Render} (hrender : s.render = some r) (e : EventRecord) :
    ∃ r', (scheduleEvent s e).render = some r' := by
  obtain ⟨b, hb⟩ := advanceTo_render e.ofs hrender
  exact ⟨_, by rw [scheduleEvent, nextEvent_render ((applyEvent_render e _).trans hb)]⟩

/-- A running block makes the calls of the plan from its cursor on, by induction on the events. -/
theorem finishBlock_eq_blockPlan (n : Word) (evts : List EventRecord) {s t : State} {r : Render}
    (hrender : s.render = some r) (h : s.endRender = t.endRender) :
    finishBlock n evts s = ((blockPlan n.toNat s.cursor.toNat evts).foldl (runItem s.channelCount) t).endRender := by
  induction evts generalizing s t r with
  | nil => exact advanceTo_endRender h n
  | cons e es ih =>
    obtain ⟨r', hr'⟩ := scheduleEvent_render hrender e
    have hevent : (scheduleEvent s e).endRender =
        (applyEvent e ((planSpan s.cursor.toNat e.ofs.toNat).foldl (runItem s.channelCount) t)).endRender :=
      applyEvent_ignoresRender e _ _ (advanceTo_endRender h e.ofs)
    have hrest := ih hr' hevent
    rw [scheduleEvent_cursor, advanceTo_cursor hrender, scheduleEvent_channelCount] at hrest
    rw [blockPlan_cons, List.foldl_append, List.foldl_cons]
    exact hrest

/-- Settles O51: the block starts at frame 0 with its own channel count. -/
theorem scheduleBlockRunsItsPlan : Obligations.ScheduleBlockRunsItsPlan := by
  unfold Obligations.ScheduleBlockRunsItsPlan
  intro ch n evts s
  exact finishBlock_eq_blockPlan n evts (s := s.beginRender ch n evts) rfl rfl

/-! ### What a plan holds -/

theorem planFrames_append (p q : List PlanItem) : planFrames (p ++ q) = planFrames p ++ planFrames q :=
  List.flatMap_append

theorem planEvents_append (p q : List PlanItem) : planEvents (p ++ q) = planEvents p ++ planEvents q :=
  List.flatMap_append

theorem planSpans_append (p q : List PlanItem) : planSpans (p ++ q) = planSpans p + planSpans q := by
  simp [planSpans]

@[simp] theorem planFrames_event (e : EventRecord) (p : List PlanItem) : planFrames (.event e :: p) = planFrames p := rfl

@[simp] theorem planEvents_event (e : EventRecord) (p : List PlanItem) :
    planEvents (.event e :: p) = e :: planEvents p := rfl

@[simp] theorem planSpans_event (e : EventRecord) (p : List PlanItem) : planSpans (.event e :: p) = planSpans p := rfl

/-- A span, or none when it would be empty, covers the frames from the cursor on (43_scheduler R213). -/
@[simp] theorem planFrames_planSpan (cursor t : Nat) :
    planFrames (planSpan cursor t) = List.range' cursor (t - cursor) := by
  unfold planSpan
  split
  next => exact List.append_nil _
  next hge =>
    rw [Nat.sub_eq_zero_of_le (Nat.le_of_not_lt hge)]
    rfl

@[simp] theorem planEvents_planSpan (cursor t : Nat) : planEvents (planSpan cursor t) = [] := by
  unfold planSpan
  split <;> rfl

theorem planSpans_planSpan_le (cursor t : Nat) : planSpans (planSpan cursor t) ≤ 1 := by
  unfold planSpan
  split
  · exact le_rfl
  · exact Nat.zero_le 1

theorem pos_of_mem_planSpan {cursor t start len : Nat} (h : PlanItem.span start len ∈ planSpan cursor t) : 0 < len := by
  unfold planSpan at h
  split at h
  next hlt =>
    obtain ⟨-, rfl⟩ := PlanItem.span.inj (List.mem_singleton.mp h)
    exact Nat.sub_pos_of_lt hlt
  next => exact absurd h List.not_mem_nil

theorem event_notMem_planSpan (e : EventRecord) (cursor t : Nat) : PlanItem.event e ∉ planSpan cursor t := by
  unfold planSpan
  split <;> simp

/-- Before an event of a plan stands the whole of the span before the first event. -/
theorem planSpan_before_event {cursor t : Nat} {q before after : List PlanItem} {e : EventRecord}
    (h : planSpan cursor t ++ q = before ++ .event e :: after) :
    ∃ between, before = planSpan cursor t ++ between ∧ q = between ++ .event e :: after := by
  obtain ⟨between, hbefore, hq⟩ | ⟨inside, hspan, hafter⟩ := List.append_eq_append_iff.mp h
  · exact ⟨between, hbefore, hq⟩
  · cases inside with
    | nil => exact ⟨[], by simpa using hspan.symm, by simpa using hafter.symm⟩
    | cons x xs =>
      obtain rfl : PlanItem.event e = x := (List.cons.inj hafter).1
      exact absurd (hspan ▸ List.mem_append_right _ List.mem_cons_self) (event_notMem_planSpan e cursor t)

/-! ### What the plan of a block holds -/

section
variable (n : Nat)

theorem planEvents_blockPlan (cursor : Nat) (evts : List EventRecord) :
    planEvents (blockPlan n cursor evts) = evts := by
  induction evts generalizing cursor with
  | nil => exact planEvents_planSpan cursor n
  | cons e es ih => rw [blockPlan_cons, planEvents_append, planEvents_event, planEvents_planSpan, ih, List.nil_append]

theorem planSpans_blockPlan_le (cursor : Nat) (evts : List EventRecord) :
    planSpans (blockPlan n cursor evts) ≤ evts.length + 1 := by
  induction evts generalizing cursor with
  | nil => exact planSpans_planSpan_le cursor n
  | cons e es ih =>
    have hspan := planSpans_planSpan_le cursor e.ofs.toNat
    have hrest := ih (max cursor e.ofs.toNat)
    rw [blockPlan_cons, planSpans_append, planSpans_event, List.length_cons]
    omega

theorem pos_of_mem_blockPlan {cursor start len : Nat} {evts : List EventRecord}
    (h : PlanItem.span start len ∈ blockPlan n cursor evts) : 0 < len := by
  induction evts generalizing cursor with
  | nil => exact pos_of_mem_planSpan h
  | cons e es ih =>
    rw [blockPlan_cons] at h
    rcases List.mem_append.mp h with hspan | hrest
    · exact pos_of_mem_planSpan hspan
    · exact ih ((List.mem_cons.mp hrest).resolve_left PlanItem.noConfusion)

end

/-- Adjacent stretches of frames make one. -/
theorem range'_append_range' {a b c : Nat} (hab : a ≤ b) (hbc : b ≤ c) :
    List.range' a (b - a) ++ List.range' b (c - b) = List.range' a (c - a) := by
  have h := List.range'_append_1 (s := a) (m := b - a) (n := c - b)
  rw [show a + (b - a) = b by omega, show b - a + (c - b) = c - a by omega] at h
  exact h

/-- The rest of an event list is legal from a cursor on: ordered offsets from the cursor up to below N. -/
def LegalFrom (n : Word) (cursor : Nat) (evts : List EventRecord) : Prop :=
  EventsLegal n evts ∧ ∀ e ∈ evts, cursor ≤ e.ofs.toNat

theorem LegalFrom.of_eventsLegal {n : Word} {evts : List EventRecord} (h : EventsLegal n evts) : LegalFrom n 0 evts :=
  ⟨h, fun _ _ => Nat.zero_le _⟩

/-- The head of a legal list lies between the cursor and N, and the tail is legal from the head on. -/
theorem LegalFrom.cons {n : Word} {cursor : Nat} {e : EventRecord} {es : List EventRecord}
    (h : LegalFrom n cursor (e :: es)) :
    cursor ≤ e.ofs.toNat ∧ e.ofs.toNat < n.toNat ∧ LegalFrom n e.ofs.toNat es := by
  obtain ⟨⟨hbelow, hordered⟩, hcursor⟩ := h
  obtain ⟨hhead, htail⟩ := List.pairwise_cons.mp hordered
  exact ⟨hcursor e List.mem_cons_self, hbelow e List.mem_cons_self,
    ⟨fun e' he' => hbelow e' (List.mem_cons_of_mem e he'), htail⟩, hhead⟩

/-- The plan of a legal list from a cursor on renders the frames from there to N in order (43_scheduler R212). -/
theorem planFrames_blockPlan {n : Word} {cursor : Nat} {evts : List EventRecord} (h : LegalFrom n cursor evts)
    (hcursor : cursor ≤ n.toNat) : planFrames (blockPlan n.toNat cursor evts) = List.range' cursor (n.toNat - cursor) := by
  induction evts generalizing cursor with
  | nil => exact planFrames_planSpan cursor n.toNat
  | cons e es ih =>
    obtain ⟨hle, hlt, hrest⟩ := h.cons
    rw [blockPlan_cons, Nat.max_eq_right hle, planFrames_append, planFrames_event, planFrames_planSpan,
      ih hrest hlt.le, range'_append_range' hle hlt.le]

/-- Before an event the plan renders exactly the frames from the cursor to its offset (43_scheduler R212). -/
theorem planFrames_before_event {n : Word} {cursor : Nat} {evts : List EventRecord} (h : LegalFrom n cursor evts)
    {before after : List PlanItem} {e : EventRecord}
    (hplan : blockPlan n.toNat cursor evts = before ++ .event e :: after) :
    cursor ≤ e.ofs.toNat ∧ planFrames before = List.range' cursor (e.ofs.toNat - cursor) := by
  induction evts generalizing cursor before with
  | nil =>
    have hmem : PlanItem.event e ∈ planSpan cursor n.toNat :=
      (show planSpan cursor n.toNat = _ from hplan) ▸ List.mem_append_right before List.mem_cons_self
    exact absurd hmem (event_notMem_planSpan e cursor n.toNat)
  | cons e' es ih =>
    obtain ⟨hle, -, hrest⟩ := h.cons
    rw [blockPlan_cons, Nat.max_eq_right hle] at hplan
    obtain ⟨between, rfl, hbetween⟩ := planSpan_before_event hplan
    rw [planFrames_append, planFrames_planSpan]
    obtain ⟨rfl, hhead⟩ | ⟨between', rfl, htail⟩ := List.cons_eq_append_iff.mp hbetween
    · obtain rfl : e = e' := PlanItem.event.inj (List.cons.inj hhead).1
      exact ⟨hle, List.append_nil _⟩
    · obtain ⟨hle', hframes⟩ := ih hrest htail
      rw [planFrames_event, hframes, range'_append_range' hle hle']
      exact ⟨hle.trans hle', rfl⟩

/-- Settles O52: each part holds of the plan from any cursor on, by induction on the events. -/
theorem planCoversEveryFrameOnce : Obligations.PlanCoversEveryFrameOnce := by
  unfold Obligations.PlanCoversEveryFrameOnce
  intro n evts h
  have hlegal := LegalFrom.of_eventsLegal h
  refine ⟨?frames, planEvents_blockPlan _ 0 evts, planSpans_blockPlan_le _ 0 evts,
    fun start len hmem => pos_of_mem_blockPlan _ hmem, fun before e after hplan => ?before⟩
  case frames => rw [planFrames_blockPlan hlegal (Nat.zero_le _), List.range_eq_range', Nat.sub_zero]
  case before =>
    obtain ⟨-, hframes⟩ := planFrames_before_event hlegal hplan
    rw [hframes, List.range_eq_range', Nat.sub_zero]

end Sys2Proof.Machine
end


section
/-! PROOFS. The event-list checks of a RENDER_BLOCK (spec/43_scheduler.md R215, spec/60_exceptions.md R273): they find the
first failing test (O15). -/

namespace Sys2Proof.Machine

/-! ### The tests of one event -/

/-- The tests of one event after one at offset `prev`, the offset test first (43_scheduler R215). -/
def eventCause (n : Word) (prev : Option Word) (e : EventRecord) : Option Cause :=
  if ¬ e.ofs < n then some .evtOffset
  else if prev.any (e.ofs < ·) then some .evtOrder
  else none

/-- The checks of a list are the tests of its first event, and if they pass the checks of the rest. -/
theorem checkEvents_cons (n : Word) (prev : Option Word) (e : EventRecord) (es : List EventRecord) :
    checkEvents n prev (e :: es) = (eventCause n prev e).or (checkEvents n (some e.ofs) es) := by
  rw [checkEvents.eq_def, eventCause]
  dsimp only
  by_cases hofs : e.ofs < n
  · rw [if_neg (not_not.mpr hofs), if_neg (not_not.mpr hofs)]
    cases prev with
    | none => rfl
    | some p => by_cases horder : e.ofs < p <;> simp [horder]
  · rw [if_pos hofs, if_pos hofs]
    rfl

section
variable {n : Word} {prev : Option Word} {e : EventRecord}

theorem eventCause_eq_evtOffset_iff : eventCause n prev e = some .evtOffset ↔ ¬ e.ofs < n := by
  by_cases hofs : e.ofs < n <;> simp [eventCause, hofs]

theorem eventCause_eq_evtOrder_iff :
    eventCause n prev e = some .evtOrder ↔ e.ofs < n ∧ ∃ p, prev = some p ∧ e.ofs < p := by
  by_cases hofs : e.ofs < n <;> cases prev <;> simp [eventCause, hofs]

theorem eventCause_eq_none_iff : eventCause n prev e = none ↔ e.ofs < n ∧ ∀ p, prev = some p → ¬ e.ofs < p := by
  by_cases hofs : e.ofs < n <;> cases prev <;> simp [eventCause, hofs]

end

/-! ### The first failing test -/

/-- The offset before event `i` of a list whose first event follows `prev`. -/
def offsetBefore (prev : Option Word) (evts : List EventRecord) : Nat → Option Word
  | 0 => prev
  | i + 1 => evts[i]?.map EventRecord.ofs

/-- Event `i` of the list, if there is one, passes its tests. -/
def PassesTests (n : Word) (prev : Option Word) (evts : List EventRecord) (i : Nat) : Prop :=
  ∀ e, evts[i]? = some e → eventCause n (offsetBefore prev evts i) e = none

/-- Event `i` of the list is the first to fail its tests, with this cause. -/
def FailsFirst (n : Word) (prev : Option Word) (evts : List EventRecord) (k : Cause) (i : Nat) : Prop :=
  ∃ e, evts[i]? = some e ∧ (∀ j, j < i → PassesTests n prev evts j) ∧
    eventCause n (offsetBefore prev evts i) e = some k

section
variable (n : Word) (prev : Option Word) (e : EventRecord) (es : List EventRecord)

theorem offsetBefore_cons_succ (i : Nat) : offsetBefore prev (e :: es) (i + 1) = offsetBefore (some e.ofs) es i := by
  cases i <;> rfl

theorem passesTests_cons_zero : PassesTests n prev (e :: es) 0 ↔ eventCause n prev e = none := by
  simp [PassesTests, offsetBefore]

theorem passesTests_cons_succ (i : Nat) :
    PassesTests n prev (e :: es) (i + 1) ↔ PassesTests n (some e.ofs) es i := by
  rw [PassesTests, offsetBefore_cons_succ, List.getElem?_cons_succ]
  rfl

theorem failsFirst_cons_zero (k : Cause) : FailsFirst n prev (e :: es) k 0 ↔ eventCause n prev e = some k := by
  simp [FailsFirst, offsetBefore]

theorem failsFirst_cons_succ (k : Cause) (i : Nat) :
    FailsFirst n prev (e :: es) k (i + 1) ↔ eventCause n prev e = none ∧ FailsFirst n (some e.ofs) es k i := by
  simp only [FailsFirst, List.getElem?_cons_succ, offsetBefore_cons_succ, Nat.forall_lt_succ_left',
    passesTests_cons_zero, passesTests_cons_succ]
  constructor
  · rintro ⟨e', he', ⟨hfirst, hpass⟩, hcause⟩
    exact ⟨hfirst, e', he', hpass, hcause⟩
  · rintro ⟨hfirst, e', he', hpass, hcause⟩
    exact ⟨e', he', ⟨hfirst, hpass⟩, hcause⟩

end

/-- The checks report exactly the first event that fails its tests, by induction on the list. -/
theorem checkEvents_eq_some_iff {n : Word} {prev : Option Word} {evts : List EventRecord} {k : Cause} :
    checkEvents n prev evts = some k ↔ ∃ i, FailsFirst n prev evts k i := by
  induction evts generalizing prev with
  | nil => simp [checkEvents, FailsFirst]
  | cons e es ih =>
    rw [checkEvents_cons, ← Nat.or_exists_add_one, failsFirst_cons_zero, Option.or_eq_some_iff, ih]
    simp only [failsFirst_cons_succ, exists_and_left]

/-- The checks pass exactly the legal lists that go on from `prev`, by induction on the list. -/
theorem checkEvents_eq_none_iff {n : Word} {prev : Option Word} {evts : List EventRecord} :
    checkEvents n prev evts = none ↔ EventsLegal n evts ∧ ∀ p, prev = some p → ∀ e ∈ evts, p ≤ e.ofs := by
  induction evts generalizing prev with
  | nil => simp [checkEvents, EventsLegal]
  | cons e es ih =>
    rw [checkEvents_cons, Option.or_eq_none_iff, eventCause_eq_none_iff, ih]
    unfold EventsLegal
    rw [List.forall_mem_cons, List.pairwise_cons]
    constructor
    · rintro ⟨⟨hofs, hprev⟩, ⟨hbelow, hordered⟩, hhead⟩
      refine ⟨⟨⟨hofs, hbelow⟩, hhead e.ofs rfl, hordered⟩, fun p hp => List.forall_mem_cons.mpr ?_⟩
      have hle : p ≤ e.ofs := BitVec.not_lt.mp (hprev p hp)
      exact ⟨hle, fun e' he' => BitVec.le_trans hle (hhead e.ofs rfl e' he')⟩
    · rintro ⟨⟨⟨hofs, hbelow⟩, hhead, hordered⟩, hprev⟩
      refine ⟨⟨hofs, fun p hp => BitVec.not_lt.mpr (hprev p hp e List.mem_cons_self)⟩, ⟨hbelow, hordered⟩, ?_⟩
      rintro p hp
      obtain rfl := Option.some.inj hp
      exact hhead

/-- In a whole list the first event has no predecessor, and every other one the event before it. -/
theorem eventPasses_iff {n : Word} {evts : List EventRecord} {i : Nat} :
    EventPasses n evts i ↔ PassesTests n none evts i := by
  simp only [EventPasses, PassesTests, eventCause_eq_none_iff]
  cases i <;> simp [offsetBefore]

/-- Settles O15: a cause is the first failing test's, which the offset or the order test decides. -/
theorem eventChecksFindTheFirstFailure : Obligations.EventChecksFindTheFirstFailure := by
  unfold Obligations.EventChecksFindTheFirstFailure
  intro n evts
  simp only [eventPasses_iff, checkEvents_eq_some_iff]
  refine ⟨?legal, ?offset, ?order⟩
  case legal => simp [checkEvents_eq_none_iff]
  case offset => simp only [FailsFirst, eventCause_eq_evtOffset_iff]
  case order =>
    have hfirst : ¬ FailsFirst n none evts .evtOrder 0 := by
      simp [FailsFirst, offsetBefore, eventCause_eq_evtOrder_iff]
    rw [← Nat.or_exists_add_one, or_iff_right hfirst]
    simp only [FailsFirst, eventCause_eq_evtOrder_iff, offsetBefore, Option.map_eq_some_iff, Nat.lt_succ_iff]
    refine exists_congr fun i => exists_congr fun e => ⟨?_, ?_⟩
    · rintro ⟨he, hpass, hofs, _, ⟨p, hp, rfl⟩, hlt⟩
      exact ⟨p, he, hp, hpass, hofs, hlt⟩
    · rintro ⟨p, he, hp, hpass, hofs, hlt⟩
      exact ⟨he, hpass, hofs, p.ofs, ⟨p, hp, rfl⟩, hlt⟩

end Sys2Proof.Machine
end

section
/-! PROOFS. What the guard leaves of a slice and of every channel of a span (spec/45_guard.md R241 to R244), and with it the
words RenderSpan writes (spec/44_renderer.md R231 to R233; O38, O58). -/

namespace Sys2Proof.Machine

/-! ### The tests of one word -/

theorem isFinite_eq (x : Real32) : isFinite x = !(isNaN x || isInf x) := by
  rw [isNaN, isInf, ← Bool.and_or_distrib_left, bne, Bool.not_or_self, Bool.and_true]
  rfl

theorem isNaN_fabs (x : Real32) : isNaN (fabs x) = isNaN x := by
  rw [isNaN, isNaN, expField_fabs, fracField_fabs]

/-- Between numbers `<=` is the failure of the converse `<`. -/
theorem fle_eq_not_flt {a b : Real32} (ha : isNaN a = false) (hb : isNaN b = false) : fle a b = !flt b a := by
  simp [fle, flt, ha, hb, ← decide_not]

/-- The range of the guard in its own two tests (45_guard R242, R243). -/
theorem inGuardRange_eq (v : Real32) : inGuardRange v = (!(isNaN v || isInf v) && !flt two (fabs v)) := by
  rw [inGuardRange, isFinite_eq]
  cases hclass : isNaN v || isInf v
  · obtain ⟨hnan, -⟩ := Bool.or_eq_false_iff.mp hclass
    rw [fle_eq_not_flt (by rwa [isNaN_fabs]) (by decide)]
  · rfl

/-- A clamp keeps the sign of the word (45_guard R244). -/
theorem clampSample_eq {v : Real32} (h : flt one (fabs v) = true) : clampSample v = guardedSample v := by
  obtain ⟨-, hnan, hmag⟩ := flt_eq_true_iff.mp h
  have hone : 0 < units one := by decide
  rw [units_fabs] at hmag
  have hpos : flt posZero v = !signBit v := by
    rw [Bool.eq_iff_iff, flt_posZero_iff, ← isNaN_fabs, units]
    cases signBit v
    · exact iff_of_true ⟨hnan, hone.trans hmag⟩ rfl
    · simp
  rw [clampSample, guardedSample, h, hpos]
  cases signBit v <;> rfl

theorem guardedSample_of_le_one {v : Real32} (h : flt one (fabs v) = false) : guardedSample v = v := by
  rw [guardedSample, h]
  rfl

/-! ### The scan of a slice -/

/-- Two different words of one channel share no byte. -/
theorem State.memRead_memWrite_frame_ne {s : State} {c f g : Nat} (v : Real32) (hwf : s.out.wf = true) (h : g ≠ f) :
    (s.memWrite c f v).memRead c g = s.memRead c g :=
  Memory.readWord_writeWord_other v hwf (by unfold outAddr; omega)

/-- The scan goes on past a word in range, which it leaves guarded. -/
theorem guardScan_succ_of_inRange {c start len todo k : Nat} (clamped : Bool) {s : State} (hwf : s.out.wf = true)
    (hk : inGuardRange (s.memRead c k) = true) :
    ∃ b t, guardScan c start len (todo + 1) k clamped s = guardScan c start len todo (k + 1) b t ∧
      t.out.wf = true ∧ t.memRead c k = guardedSample (s.memRead c k) ∧ ∀ f, f ≠ k → t.memRead c f = s.memRead c f := by
  rw [inGuardRange_eq, Bool.and_eq_true, Bool.not_eq_true', Bool.not_eq_true'] at hk
  obtain ⟨hfinite, htwo⟩ := hk
  simp only [guardScan, hfinite, htwo, Bool.false_eq_true, if_false]
  split
  next habove =>
    obtain ⟨d, hd⟩ := flagClamp_spec clamped (s.memWrite c k (clampSample (s.memRead c k)))
    refine ⟨true, _, rfl, ?_⟩
    rw [hd, clampSample_eq habove]
    exact ⟨Memory.wf_writeWord _ _ hwf, State.memRead_memWrite_same _ _ _ _ hwf,
      fun f hf => State.memRead_memWrite_frame_ne _ hwf hf⟩
  next hbelow =>
    exact ⟨clamped, s, rfl, hwf, (guardedSample_of_le_one (by simpa using hbelow)).symm, fun _ _ => rfl⟩

/-- The scan stops at a word out of range, and the slice is zeroed. -/
theorem guardScan_succ_of_outOfRange {c start len todo k : Nat} (clamped : Bool) {s : State}
    (hk : inGuardRange (s.memRead c k) = false) :
    ∃ d, (guardScan c start len (todo + 1) k clamped s).2 = (zeroSlice c len start s).setGuardDiag d := by
  rw [inGuardRange_eq, ← Bool.not_or, Bool.not_eq_false'] at hk
  rw [guardScan]
  dsimp only
  split
  next => exact ⟨_, rfl⟩
  next hfinite =>
    rw [Bool.eq_false_iff.mpr hfinite, Bool.false_or] at hk
    rw [if_pos hk]
    exact ⟨_, rfl⟩

/-- Words in range are guarded one by one, and no other word of the channel changes (45_guard R244). -/
theorem guardScan_memRead_of_inRange {c start len todo k : Nat} (clamped : Bool) {s : State} (hwf : s.out.wf = true)
    (h : ∀ f, k ≤ f → f < k + todo → inGuardRange (s.memRead c f) = true) (f : Nat) :
    (guardScan c start len todo k clamped s).2.memRead c f =
      if k ≤ f ∧ f < k + todo then guardedSample (s.memRead c f) else s.memRead c f := by
  induction todo generalizing k clamped s with
  | zero => exact (if_neg (by omega)).symm
  | succ todo ih =>
    obtain ⟨b, t, hscan, hwf', hsame, hother⟩ :=
      guardScan_succ_of_inRange (start := start) (len := len) (todo := todo) clamped hwf (h k le_rfl (by omega))
    rw [hscan, ih b hwf' fun g hg hg' => by rw [hother g (by omega)]; exact h g (by omega) (by omega)]
    by_cases hf : f = k
    · subst hf
      rw [if_neg (by omega), if_pos (by omega), hsame]
    · rw [hother f hf]
      exact if_congr (by omega) rfl rfl

/-- One word out of range zeroes the whole slice, the words before it too (45_guard R242, R243). -/
theorem guardScan_memRead_of_outOfRange {c start len todo k : Nat} (clamped : Bool) {s : State} (hwf : s.out.wf = true)
    {g : Nat} (hg : k ≤ g) (hg' : g < k + todo) (h : inGuardRange (s.memRead c g) = false)
    {f : Nat} (hf : start ≤ f) (hf' : f < start + len) :
    (guardScan c start len todo k clamped s).2.memRead c f = posZero := by
  induction todo generalizing k clamped s with
  | zero => omega
  | succ todo ih =>
    cases hk : inGuardRange (s.memRead c k)
    case false =>
      obtain ⟨d, hd⟩ := guardScan_succ_of_outOfRange (start := start) (len := len) (todo := todo) clamped hk
      rw [hd]
      exact zeroSlice_read c len start s hwf hf hf'
    case true =>
      obtain ⟨b, t, hscan, hwf', -, hother⟩ :=
        guardScan_succ_of_inRange (start := start) (len := len) (todo := todo) clamped hwf hk
      have hne : g ≠ k := by
        rintro rfl
        exact absurd hk (by rw [h]; decide)
      rw [hscan]
      exact ih b hwf' (by omega) (by omega) (by rwa [hother g hne])

section
variable {c start len f : Nat} {s : State} (hwf : s.out.wf = true) (hf : start ≤ f) (hf' : f < start + len)
include hwf hf hf'

theorem guardSlice_memRead_of_inRange (h : ∀ g, start ≤ g → g < start + len → inGuardRange (s.memRead c g) = true) :
    (guardSlice c start len s).memRead c f = guardedSample (s.memRead c f) := by
  have hscan := guardScan_memRead_of_inRange (start := start) (len := len) false hwf h f
  rw [if_pos ⟨hf, hf'⟩] at hscan
  exact hscan

theorem guardSlice_memRead_of_outOfRange {g : Nat} (hg : start ≤ g) (hg' : g < start + len)
    (h : inGuardRange (s.memRead c g) = false) : (guardSlice c start len s).memRead c f = posZero :=
  guardScan_memRead_of_outOfRange false hwf hg hg' h hf hf'

end

/-! ### The guard of every channel -/

/-- No byte of a word of another channel lies in a slice. -/
theorem outsideSlice_of_word {c d start len f a : Nat} (hlen : start + len ≤ 2 ^ 32) (hf : f < 2 ^ 32) (hcd : c ≠ d)
    (ha : outAddr c f ≤ a) (ha' : a < outAddr c f + 4) : outsideSlice d start len a := by
  intro g _ hg
  have := outAddr_disjoint (c := c) (f := f) (c' := d) (f' := g) hf (by omega) (by omega)
  omega

theorem guardSlice_memRead_of_ne {c d start len f : Nat} (hlen : start + len ≤ 2 ^ 32) (hf : f < 2 ^ 32) (hcd : c ≠ d)
    {s : State} (hwf : s.out.wf = true) : (guardSlice d start len s).memRead c f = s.memRead c f :=
  (guardSlice_out d start len s).memRead_eq hwf fun _ ha ha' => outsideSlice_of_word hlen hf hcd ha ha'

/-- The guard of the channels below `c` does not touch channel `c`. -/
theorem guardChannels_memRead_of_le {channels c start len f : Nat} (hlen : start + len ≤ 2 ^ 32) (hf : f < 2 ^ 32)
    (hc : channels ≤ c) {s : State} (hwf : s.out.wf = true) :
    (guardChannels start len channels s).memRead c f = s.memRead c f :=
  (guardChannels_out start len channels s).memRead_eq hwf fun _ ha ha' _ _ hd hg hg' =>
    outsideSlice_of_word hlen hf (by omega) ha ha' _ hg hg'

/-- In each channel the guard of all channels leaves what the guard of that channel's slice leaves, which finds the channel
as it was (44_renderer R231). -/
theorem guardChannels_memRead {channels c start len : Nat} (hlen : start + len ≤ 2 ^ 32) (hc : c < channels) {s : State}
    (hwf : s.out.wf = true) :
    ∃ t, t.out.wf = true ∧ (∀ f, f < 2 ^ 32 → t.memRead c f = s.memRead c f) ∧
      ∀ f, f < 2 ^ 32 → (guardChannels start len channels s).memRead c f = (guardSlice c start len t).memRead c f := by
  induction channels with
  | zero => omega
  | succ d ih =>
    obtain ⟨hwf', -⟩ := guardChannels_out start len d s hwf
    rcases Nat.lt_succ_iff_lt_or_eq.mp hc with hlt | rfl
    · obtain ⟨t, ht, hread, hslice⟩ := ih hlt
      exact ⟨t, ht, hread, fun f hf =>
        (guardSlice_memRead_of_ne hlen hf (by omega) hwf').trans (hslice f hf)⟩
    · exact ⟨_, hwf', fun f hf => guardChannels_memRead_of_le hlen hf le_rfl hwf, fun _ _ => rfl⟩

theorem guardChannels_phase_level (start len channels : Nat) (s : State) :
    (guardChannels start len channels s).phase = s.phase ∧ (guardChannels start len channels s).level = s.level := by
  induction channels with
  | zero => exact ⟨rfl, rfl⟩
  | succ c ih =>
    obtain ⟨hphase, hlevel⟩ := ih
    obtain ⟨hphase', hlevel'⟩ := guardSlice_phase_level c start len (guardChannels start len c s)
    exact ⟨hphase'.trans hphase, hlevel'.trans hlevel⟩

/-! ### The words of a span -/

section
variable {channels start len c : Nat} (hlen : start + len ≤ 2 ^ 32) (hc : c < channels) {s : State}
  (hwf : s.out.wf = true)
include hlen hc hwf

/-- What RenderSpan leaves in a channel is the guard of a slice that holds the voice's samples (44_renderer R231). -/
theorem renderSpan_memRead_eq_guardSlice :
    ∃ t, t.out.wf = true ∧ (∀ j, j < len → t.memRead c (start + j) = sampleAt j s) ∧
      ∀ f, f < 2 ^ 32 → (renderSpan channels start len s).memRead c f = (guardSlice c start len t).memRead c f := by
  obtain ⟨hwf', -⟩ := renderFrames_out channels len start s hwf
  obtain ⟨t, ht, hread, hslice⟩ := guardChannels_memRead hlen hc hwf'
  refine ⟨t, ht, fun j hj => ?_, hslice⟩
  rw [hread _ (by omega), renderFrames_memRead hlen hwf hc hj]

theorem renderSpan_memRead_of_inRange (h : ∀ j, j < len → inGuardRange (sampleAt j s) = true) {j : Nat} (hj : j < len) :
    (renderSpan channels start len s).memRead c (start + j) = guardedSample (sampleAt j s) := by
  obtain ⟨t, ht, hsample, hslice⟩ := renderSpan_memRead_eq_guardSlice hlen hc hwf
  rw [hslice _ (by omega), ← hsample j hj]
  refine guardSlice_memRead_of_inRange ht (by omega) (by omega) fun g hg hg' => ?_
  obtain ⟨i, rfl⟩ := Nat.exists_eq_add_of_le hg
  rw [hsample i (by omega)]
  exact h i (by omega)

theorem renderSpan_memRead_of_outOfRange {j : Nat} (hj : j < len) (h : inGuardRange (sampleAt j s) = false)
    {f : Nat} (hf : start ≤ f) (hf' : f < start + len) :
    (renderSpan channels start len s).memRead c f = posZero := by
  obtain ⟨t, ht, hsample, hslice⟩ := renderSpan_memRead_eq_guardSlice hlen hc hwf
  rw [hslice f (by omega)]
  exact guardSlice_memRead_of_outOfRange ht hf hf' (g := start + j) (by omega) (by omega) (by rwa [hsample j hj])

end

/-- RenderSpan samples the voice once per frame, whatever the number of channels (44_renderer R232). -/
theorem renderSpan_phase_level (channels start len : Nat) (s : State) :
    (renderSpan channels start len s).phase = (voiceAfter len s).phase ∧
    (renderSpan channels start len s).level = (voiceAfter len s).level := by
  obtain ⟨o, ho⟩ := renderFrames_spec channels len start s
  rw [renderSpan, ho]
  exact guardChannels_phase_level start len channels ((voiceAfter len s).setOut o)

/-- Every channel of a span holds the same words (44_renderer R232). -/
theorem renderSpan_memRead_channels_eq {channels start len c d f : Nat} (hlen : start + len ≤ 2 ^ 32)
    (hc : c < channels) (hd : d < channels) {s : State} (hwf : s.out.wf = true) (hf : start ≤ f) (hf' : f < start + len) :
    (renderSpan channels start len s).memRead c f = (renderSpan channels start len s).memRead d f := by
  by_cases hrange : ∀ j, j < len → inGuardRange (sampleAt j s) = true
  · obtain ⟨j, rfl⟩ := Nat.exists_eq_add_of_le hf
    have hj : j < len := by omega
    rw [renderSpan_memRead_of_inRange hlen hc hwf hrange hj, renderSpan_memRead_of_inRange hlen hd hwf hrange hj]
  · obtain ⟨j, hj, hout⟩ : ∃ j, j < len ∧ inGuardRange (sampleAt j s) = false := by simpa using hrange
    rw [renderSpan_memRead_of_outOfRange hlen hc hwf hj hout hf hf',
      renderSpan_memRead_of_outOfRange hlen hd hwf hj hout hf hf']

/-- Settles O58: the frames hold the samples when the guard of each channel runs, which guards or zeroes its slice. -/
theorem renderedSamplesReachTheBuffer : Obligations.RenderedSamplesReachTheBuffer := by
  unfold Obligations.RenderedSamplesReachTheBuffer
  intro channels start len s _ hlen hwf
  exact ⟨fun hrange c j hc hj => renderSpan_memRead_of_inRange hlen hc hwf hrange hj,
    fun j hj hout c f hc hf hf' => renderSpan_memRead_of_outOfRange hlen hc hwf hj hout hf hf'⟩

/-- Settles O38: both channels hold the guard's answer to one list of samples. -/
theorem bothChannelsHoldTheSameWords : Obligations.BothChannelsHoldTheSameWords := by
  unfold Obligations.BothChannelsHoldTheSameWords
  intro start len s hlen hwf
  exact ⟨fun f hf hf' => renderSpan_memRead_channels_eq hlen (by decide) (by decide) hwf hf hf',
    renderSpan_phase_level 2 start len s⟩

end Sys2Proof.Machine
end

section
/-! PROOFS. What GuardSlice leaves of its slice and of `GUARD_DIAG` (spec/45_guard.md R241 to R245; O34 to O37): the scan
splits at the first word out of range, and the part before it counts one clamp at most. -/

namespace Sys2Proof.Machine

/-! ### The fields of `GUARD_DIAG` -/

/-- Setting bits above the count leaves it (10_state R46). -/
theorem clampCount_or {m : BitVec 32} (hm : m.extractLsb' 0 16 = 0#16) (d : BitVec 32) :
    clampCount (d ||| m) = clampCount d := by
  rw [clampCount, BitVec.extractLsb'_or, hm, BitVec.or_zero, clampCount]

theorem clampCount_markNonfinite (d : BitVec 32) : clampCount (markNonfinite d) = clampCount d :=
  clampCount_or (by decide) d

theorem clampCount_markOverrange (d : BitVec 32) : clampCount (markOverrange d) = clampCount d :=
  clampCount_or (by decide) d

theorem nonfiniteSeen_markNonfinite (d : BitVec 32) : nonfiniteSeen (markNonfinite d) = true := by
  rw [nonfiniteSeen, markNonfinite, BitVec.getLsbD_or, show (0x00010000#32).getLsbD 16 = true by decide, Bool.or_true]

theorem overrangeSeen_markNonfinite (d : BitVec 32) : overrangeSeen (markNonfinite d) = overrangeSeen d := by
  rw [overrangeSeen, markNonfinite, BitVec.getLsbD_or, show (0x00010000#32).getLsbD 17 = false by decide, Bool.or_false,
    overrangeSeen]

theorem overrangeSeen_markOverrange (d : BitVec 32) : overrangeSeen (markOverrange d) = true := by
  rw [overrangeSeen, markOverrange, BitVec.getLsbD_or, show (0x00020000#32).getLsbD 17 = true by decide, Bool.or_true]

theorem nonfiniteSeen_markOverrange (d : BitVec 32) : nonfiniteSeen (markOverrange d) = nonfiniteSeen d := by
  rw [nonfiniteSeen, markOverrange, BitVec.getLsbD_or, show (0x00020000#32).getLsbD 16 = false by decide, Bool.or_false,
    nonfiniteSeen]

theorem extractLsb'_countClamp (d : BitVec 32) : (countClamp d).extractLsb' 16 16 = d.extractLsb' 16 16 :=
  BitVec.extractLsb'_append_eq_left

theorem toNat_clampCount_countClamp (d : BitVec 32) : (clampCount (countClamp d)).toNat = countAfterClamp d := by
  rw [clampCount, countClamp, BitVec.extractLsb'_append_eq_right, BitVec.toNat_ofNat, countAfterClamp]
  omega

/-- `GUARD_DIAG` went from `d` to `d'` by one saturating count if `above` holds and did not change otherwise
(45_guard R241, R244). -/
structure CountsOnceIf (above : Prop) (d d' : BitVec 32) : Prop where
  flags : d'.extractLsb' 16 16 = d.extractLsb' 16 16
  counted : above → (clampCount d').toNat = countAfterClamp d
  kept : ¬ above → d' = d

theorem CountsOnceIf.of_countClamp {above : Prop} (d : BitVec 32) (h : above) : CountsOnceIf above d (countClamp d) :=
  ⟨extractLsb'_countClamp d, fun _ => toNat_clampCount_countClamp d, fun hn => absurd h hn⟩

theorem CountsOnceIf.of_not {above : Prop} (d : BitVec 32) (h : ¬ above) : CountsOnceIf above d d :=
  ⟨rfl, fun ha => absurd ha h, fun _ => rfl⟩

section
variable {above : Prop} {d d' : BitVec 32} (h : CountsOnceIf above d d')
include h

theorem CountsOnceIf.nonfiniteSeen_eq : nonfiniteSeen d' = nonfiniteSeen d := by
  simpa [nonfiniteSeen] using congrArg (BitVec.getLsbD · 0) h.flags

theorem CountsOnceIf.overrangeSeen_eq : overrangeSeen d' = overrangeSeen d := by
  simpa [overrangeSeen] using congrArg (BitVec.getLsbD · 1) h.flags

end

/-! ### One word of the scan -/

theorem flagClamp_memRead (clamped : Bool) (s : State) (c f : Nat) :
    (flagClamp clamped s).memRead c f = s.memRead c f := by
  rw [State.memRead, flagClamp_out, State.memRead]

theorem zeroSlice_guardDiag (c len k : Nat) (s : State) : (zeroSlice c len k s).guardDiag = s.guardDiag := by
  obtain ⟨o, h⟩ := zeroSlice_spec c len k s
  rw [h, State.setOut_guardDiag]

/-- The state after the scan has clamped word `k` (45_guard R244). -/
def clampWord (c k : Nat) (clamped : Bool) (s : State) : State :=
  flagClamp clamped (s.memWrite c k (clampSample (s.memRead c k)))

theorem clampWord_wf (c k : Nat) (clamped : Bool) {s : State} (hwf : s.out.wf = true) :
    (clampWord c k clamped s).out.wf = true := by
  rw [clampWord, flagClamp_out]
  exact Memory.wf_writeWord _ _ hwf

theorem clampWord_memRead_ne {c k f : Nat} (clamped : Bool) {s : State} (hwf : s.out.wf = true) (hf : f ≠ k) :
    (clampWord c k clamped s).memRead c f = s.memRead c f := by
  rw [clampWord, flagClamp_memRead, State.memRead_memWrite_frame_ne _ hwf hf]

section
variable {c start len todo k : Nat} {clamped : Bool} {s : State}

theorem guardScan_succ_of_clamped (hk : inGuardRange (s.memRead c k) = true)
    (habove : flt one (fabs (s.memRead c k)) = true) :
    guardScan c start len (todo + 1) k clamped s = guardScan c start len todo (k + 1) true (clampWord c k clamped s) := by
  rw [inGuardRange_eq, Bool.and_eq_true, Bool.not_eq_true', Bool.not_eq_true'] at hk
  obtain ⟨hfinite, htwo⟩ := hk
  simp only [guardScan, hfinite, htwo, habove, Bool.false_eq_true, if_false, if_true, clampWord]

theorem guardScan_succ_of_passed (hk : inGuardRange (s.memRead c k) = true)
    (hbelow : flt one (fabs (s.memRead c k)) = false) :
    guardScan c start len (todo + 1) k clamped s = guardScan c start len todo (k + 1) clamped s := by
  rw [inGuardRange_eq, Bool.and_eq_true, Bool.not_eq_true', Bool.not_eq_true'] at hk
  obtain ⟨hfinite, htwo⟩ := hk
  simp only [guardScan, hfinite, htwo, hbelow, Bool.false_eq_true, if_false]

/-- A NaN or an infinity ends the scan with its flag set (45_guard R242). -/
theorem guardScan_guardDiag_of_nonfinite (hk : isFinite (s.memRead c k) = false) :
    (guardScan c start len (todo + 1) k clamped s).2.guardDiag = markNonfinite s.guardDiag := by
  rw [isFinite_eq, Bool.not_eq_false'] at hk
  simp only [guardScan, hk, if_true, State.setGuardDiag_guardDiag, zeroSlice_guardDiag]

/-- A finite word above 2.0 ends the scan with its flag set (45_guard R243). -/
theorem guardScan_guardDiag_of_runaway (hk : isFinite (s.memRead c k) = true)
    (htwo : flt two (fabs (s.memRead c k)) = true) :
    (guardScan c start len (todo + 1) k clamped s).2.guardDiag = markOverrange s.guardDiag := by
  rw [isFinite_eq, Bool.not_eq_true'] at hk
  simp only [guardScan, hk, htwo, Bool.false_eq_true, if_false, if_true, State.setGuardDiag_guardDiag,
    zeroSlice_guardDiag]

end

/-! ### The scan of words in range -/

theorem someClamped_succ_iff {s : State} {c k stop : Nat} (hbelow : flt one (fabs (s.memRead c k)) = false) :
    someClamped s c (k + 1) stop ↔ someClamped s c k stop := by
  refine exists_congr fun f => ⟨fun ⟨hf, hf', habove⟩ => ⟨by omega, hf', habove⟩, fun ⟨hf, hf', habove⟩ => ?_⟩
  have hne : f ≠ k := by
    rintro rfl
    exact absurd habove (by rw [hbelow]; decide)
  exact ⟨by omega, hf', habove⟩

section
variable {c start len m k : Nat} (clamped : Bool) {s : State} (hwf : s.out.wf = true)
  (h : ∀ f, k ≤ f → f < k + m → inGuardRange (s.memRead c f) = true)
include hwf h

/-- The scan splits after words in range. -/
theorem guardScan_add_of_inRange (todo : Nat) :
    guardScan c start len (m + todo) k clamped s =
      guardScan c start len todo (k + m) (guardScan c start len m k clamped s).1
        (guardScan c start len m k clamped s).2 := by
  induction m generalizing k clamped s with
  | zero => rw [Nat.zero_add]; rfl
  | succ m ih =>
    have hk := h k le_rfl (by omega)
    rw [Nat.add_right_comm, show k + (m + 1) = k + 1 + m by omega]
    cases habove : flt one (fabs (s.memRead c k))
    case true =>
      rw [guardScan_succ_of_clamped hk habove, guardScan_succ_of_clamped hk habove]
      refine ih true (clampWord_wf c k clamped hwf) fun f hf hf' => ?_
      rw [clampWord_memRead_ne clamped hwf (by omega)]
      exact h f (by omega) (by omega)
    case false =>
      rw [guardScan_succ_of_passed hk habove, guardScan_succ_of_passed hk habove]
      exact ih clamped hwf fun f hf hf' => h f (by omega) (by omega)

/-- Words in range count one clamp, unless none is above 1.0 or `SLICE_CLAMPED` was set before (45_guard R241, R244). -/
theorem guardScan_countsOnceIf :
    CountsOnceIf (clamped = false ∧ someClamped s c k (k + m)) s.guardDiag
      (guardScan c start len m k clamped s).2.guardDiag := by
  induction m generalizing k clamped s with
  | zero =>
    refine .of_not _ ?_
    rintro ⟨-, f, hf, hf', -⟩
    omega
  | succ m ih =>
    have hk := h k le_rfl (by omega)
    cases habove : flt one (fabs (s.memRead c k))
    case true =>
      have hrest : (guardScan c start len m (k + 1) true (clampWord c k clamped s)).2.guardDiag =
          (clampWord c k clamped s).guardDiag := by
        refine (ih true (clampWord_wf c k clamped hwf) fun f hf hf' => ?_).kept (by simp)
        rw [clampWord_memRead_ne clamped hwf (by omega)]
        exact h f (by omega) (by omega)
      rw [guardScan_succ_of_clamped hk habove, hrest]
      cases clamped
      · exact .of_countClamp s.guardDiag ⟨rfl, k, le_rfl, by omega, habove⟩
      · exact .of_not s.guardDiag (by simp)
    case false =>
      rw [guardScan_succ_of_passed hk habove, show k + (m + 1) = k + 1 + m by omega, ← someClamped_succ_iff habove]
      exact ih clamped hwf fun f hf hf' => h f (by omega) (by omega)

end

theorem guardScan_false_countsOnceIf {c start len m k : Nat} {s : State} (hwf : s.out.wf = true)
    (h : ∀ f, k ≤ f → f < k + m → inGuardRange (s.memRead c f) = true) :
    CountsOnceIf (someClamped s c k (k + m)) s.guardDiag (guardScan c start len m k false s).2.guardDiag := by
  have hscan := guardScan_countsOnceIf (start := start) (len := len) false hwf h
  rwa [eq_self, true_and] at hscan

/-! ### The guard of a slice -/

/-- In a slice of words in range `GUARD_DIAG` counts one clamp at most (45_guard R244). -/
theorem guardSlice_countsOnceIf {c start len : Nat} {s : State} (hwf : s.out.wf = true)
    (h : ∀ f, start ≤ f → f < start + len → inGuardRange (s.memRead c f) = true) :
    CountsOnceIf (someClamped s c start (start + len)) s.guardDiag (guardSlice c start len s).guardDiag :=
  guardScan_false_countsOnceIf hwf h

/-- The scan of a slice arrives at word `k` behind words in range, finds it as it was, and has counted one clamp at most. -/
theorem guardSlice_guardDiag_from {c start len k : Nat} {s : State} (hwf : s.out.wf = true) (hk : start ≤ k)
    (hk' : k < start + len) (h : ∀ f, start ≤ f → f < k → inGuardRange (s.memRead c f) = true) :
    ∃ todo clamped t, (guardSlice c start len s).guardDiag = (guardScan c start len (todo + 1) k clamped t).2.guardDiag ∧
      t.memRead c k = s.memRead c k ∧ CountsOnceIf (someClamped s c start k) s.guardDiag t.guardDiag := by
  obtain ⟨m, rfl⟩ := Nat.exists_eq_add_of_le hk
  obtain ⟨todo, rfl⟩ : ∃ todo, len = m + (todo + 1) := Nat.exists_eq_add_of_lt (by omega)
  refine ⟨todo, _, _, congrArg (·.2.guardDiag) (guardScan_add_of_inRange false hwf h (todo + 1)), ?_,
    guardScan_false_countsOnceIf hwf h⟩
  rw [guardScan_memRead_of_inRange false hwf h, if_neg (by omega)]

/-- A guarded sample is finite and at most 1.0 (45_guard R245). -/
theorem sampleSafe_guardedSample {v : Real32} (h : inGuardRange v = true) : sampleSafe (guardedSample v) = true := by
  cases habove : flt one (fabs v)
  case true =>
    rw [guardedSample, if_pos habove]
    cases signBit v <;> decide
  case false =>
    rw [inGuardRange, Bool.and_eq_true] at h
    obtain ⟨hfinite, -⟩ := h
    rw [guardedSample_of_le_one habove, sampleSafe, hfinite,
      fle_eq_not_flt (by rw [isNaN_fabs, isNaN_of_isFinite hfinite]) (by decide), habove]
    rfl

/-- Settles O34: a slice in range is guarded word by word, and any other slice is zeroed. -/
theorem guardLeavesTheSliceSafe : Obligations.GuardLeavesTheSliceSafe := by
  unfold Obligations.GuardLeavesTheSliceSafe
  intro c start len s hwf
  obtain ⟨-, hframe⟩ := guardSlice_out c start len s hwf
  refine ⟨fun f hf hf' => ?_, hframe⟩
  by_cases hrange : ∀ g, start ≤ g → g < start + len → inGuardRange (s.memRead c g) = true
  · rw [guardSlice_memRead_of_inRange hwf hf hf' hrange]
    exact sampleSafe_guardedSample (hrange f hf hf')
  · obtain ⟨g, hg, hg', hout⟩ : ∃ g, start ≤ g ∧ g < start + len ∧ inGuardRange (s.memRead c g) = false := by
      simpa using hrange
    rw [guardSlice_memRead_of_outOfRange hwf hf hf' hg hg' hout]
    decide

/-- Settles O35: the scan arrives at the NaN or infinity with the clamps before it counted. -/
theorem guardZeroesANonfiniteSlice : Obligations.GuardZeroesANonfiniteSlice := by
  unfold Obligations.GuardZeroesANonfiniteSlice
  intro c start len k s hwf hk hk' hrange hfinite
  have hout : inGuardRange (s.memRead c k) = false := by rw [inGuardRange, hfinite, Bool.false_and]
  obtain ⟨todo, clamped, t, hdiag, hread, hcount⟩ := guardSlice_guardDiag_from hwf hk hk' hrange
  rw [guardScan_guardDiag_of_nonfinite (by rwa [hread])] at hdiag
  rw [hdiag, overrangeSeen_markNonfinite, clampCount_markNonfinite]
  exact ⟨fun f hf hf' => guardSlice_memRead_of_outOfRange hwf hf hf' hk hk' hout, nonfiniteSeen_markNonfinite _,
    hcount.overrangeSeen_eq, hcount.counted, fun hnone => congrArg clampCount (hcount.kept hnone)⟩

/-- Settles O36: the scan arrives at the word above 2.0 with the clamps before it counted. -/
theorem guardZeroesARunawaySlice : Obligations.GuardZeroesARunawaySlice := by
  unfold Obligations.GuardZeroesARunawaySlice
  intro c start len k s hwf hk hk' hrange hfinite htwo
  have hout : inGuardRange (s.memRead c k) = false := by rw [inGuardRange_eq, htwo, Bool.not_true, Bool.and_false]
  obtain ⟨todo, clamped, t, hdiag, hread, hcount⟩ := guardSlice_guardDiag_from hwf hk hk' hrange
  rw [guardScan_guardDiag_of_runaway (by rwa [hread]) (by rwa [hread])] at hdiag
  rw [hdiag, nonfiniteSeen_markOverrange, clampCount_markOverrange]
  exact ⟨fun f hf hf' => guardSlice_memRead_of_outOfRange hwf hf hf' hk hk' hout, overrangeSeen_markOverrange _,
    hcount.nonfiniteSeen_eq, hcount.counted, fun hnone => congrArg clampCount (hcount.kept hnone)⟩

/-- Settles O37: every word is guarded by itself, and the scan counts the first clamp alone. -/
theorem guardClampsEachSampleAndCountsOnce : Obligations.GuardClampsEachSampleAndCountsOnce := by
  unfold Obligations.GuardClampsEachSampleAndCountsOnce
  intro c start len s hwf hrange
  obtain ⟨hflags, hcounted, hkept⟩ := guardSlice_countsOnceIf hwf hrange
  exact ⟨fun f hf hf' => guardSlice_memRead_of_inRange hwf hf hf' hrange, hflags, hcounted, hkept⟩

end Sys2Proof.Machine
end

section
/-! PROOFS. The transactions PREPARE, CONFIGURE and the reserved command codes (spec/46_host.md R251, R252, R254; O9,
O10, O11). -/

namespace Sys2Proof.Machine

/-! ### PREPARE and CONFIGURE -/

/-- Settles O9: the register writes of PREPARE, made one after the other, are these. -/
theorem prepareResetsTheVoice : Obligations.PrepareResetsTheVoice := by
  unfold Obligations.PrepareResetsTheVoice
  intro sr s
  rfl

/-- Settles O10: CONFIGURE is its three register writes. -/
theorem configureWritesItsThreeRegisters : Obligations.ConfigureWritesItsThreeRegisters := by
  unfold Obligations.ConfigureWritesItsThreeRegisters
  intro e atk rel s
  rfl

/-! ### Reserved command codes -/

/-- Every code but those of the three commands belongs to the reserved row it decodes to (30_encoding R101). -/
theorem reservedRowCode_decodeReserved {cmd : Byte} (h1 : cmd ≠ 0x01#8) (h2 : cmd ≠ 0x02#8) (h3 : cmd ≠ 0x03#8) :
    reservedRowCode (decodeReserved cmd) = some cmd := by
  revert cmd
  decide

theorem reservedRowCode_of_decodeRender {w0 : Word} {ws rest : List Word} {i : Instr}
    (h : decodeRender w0 ws = .ok (i, rest)) : reservedRowCode i = none := by
  match ws with
  | [] | [_] => cases (decodeRender_short (by simp)).symm.trans h
  | n :: m :: tail =>
    by_cases hlen : 2 * m.toNat ≤ tail.length
    · cases (decodeRender_whole n m hlen).symm.trans h
      rfl
    · cases (decodeRender_incomplete n m (Nat.lt_of_not_le hlen)).symm.trans h

/-- The three commands do not decode to a reserved row. -/
theorem reservedRowCode_of_command {w : Word} {ws rest : List Word} {i : Instr}
    (hcode : commandCode w = 0x01#8 ∨ commandCode w = 0x02#8 ∨ commandCode w = 0x03#8)
    (h : decodeTransaction (w :: ws) = .ok (i, rest)) : reservedRowCode i = none := by
  obtain hprepare | hconfigure | hrender := hcode
  · match ws with
    | [] => cases (decodeTransaction_prepare_incomplete hprepare).symm.trans h
    | sr :: _ =>
      cases (decodeTransaction_prepare hprepare sr _).symm.trans h
      rfl
  · match ws with
    | [] | [_] => cases (decodeTransaction_configure_incomplete hconfigure (by simp)).symm.trans h
    | atk :: rel :: _ =>
      cases (decodeTransaction_configure hconfigure atk rel _).symm.trans h
      rfl
  · exact reservedRowCode_of_decodeRender ((decodeTransaction_render hrender ws).symm.trans h)

/-- Settles O11: the seven rows raise one fault; the code alone decides whether a header decodes to one of them. -/
theorem reservedCodesTakeBadCmd : Obligations.ReservedCodesTakeBadCmd := by
  unfold Obligations.ReservedCodesTakeBadCmd
  refine ⟨fun _ => rfl, fun _ _ => rfl, fun _ _ => rfl, fun _ _ => rfl, fun _ _ => rfl, fun _ _ => rfl, fun _ _ => rfl,
    fun w ws h1 h2 h3 => ?reserved, fun w ws i rest => reservedRowCode_of_command⟩
  exact ⟨_, decodeTransaction_reserved h1 h2 h3 ws, reservedRowCode_decodeReserved h1 h2 h3⟩

end Sys2Proof.Machine
end

section
/-! PROOFS. The checks of a RENDER_BLOCK and what it does when they pass (spec/46_host.md R253, spec/60_exceptions.md
R271, R273; O14, O16). -/

namespace Sys2Proof.Machine

/-! ### The checks -/

theorem channelsLegal_of_one_or_two {ch : BitVec 2} (h : ch = 1#2 ∨ ch = 2#2) : channelsLegal ch = true := by
  rcases h with rfl | rfl <;> rfl

section
variable {maxF maxE : Nat} {ch : BitVec 2} {n : Word} {evts : List EventRecord}

theorem renderCheck_badChannels (hch : channelsLegal ch = false) :
    renderCheck maxF maxE true ch n evts = some .badChannels := by
  simp [renderCheck, hch]

theorem renderCheck_framesRange (hch : channelsLegal ch = true) (hn : maxF < n.toNat) :
    renderCheck maxF maxE true ch n evts = some .framesRange := by
  simp [renderCheck, hch, hn]

theorem renderCheck_eventsRange (hch : channelsLegal ch = true) (hn : n.toNat ≤ maxF) (hm : maxE < evts.length) :
    renderCheck maxF maxE true ch n evts = some .eventsRange := by
  simp [renderCheck, hch, Nat.not_lt.mpr hn, hm]

/-- A block whose counts are in range is left to the checks of its event list. -/
theorem renderCheck_eq_checkEvents (hch : channelsLegal ch = true) (hn : n.toNat ≤ maxF) (hm : evts.length ≤ maxE) :
    renderCheck maxF maxE true ch n evts = checkEvents n none evts := by
  simp [renderCheck, hch, Nat.not_lt.mpr hn, Nat.not_lt.mpr hm]

end

/-- Settles O14, check by check. -/
theorem renderChecksRunInOrder : Obligations.RenderChecksRunInOrder := by
  unfold Obligations.RenderChecksRunInOrder
  intro maxF maxE ch n evts
  refine ⟨if_pos rfl, fun hch => renderCheck_badChannels ?_, fun hch => ?_⟩
  · rcases hch with rfl | rfl <;> rfl
  · have hlegal := channelsLegal_of_one_or_two hch
    exact ⟨renderCheck_framesRange hlegal, renderCheck_eventsRange hlegal, renderCheck_eq_checkEvents hlegal⟩

/-! ### A block that passes them -/

/-- A RENDER_BLOCK with legal operands runs its block (46_host R253). -/
theorem exec_renderBlock_of_legal {ch : BitVec 2} {n : Word} {evts : List EventRecord} {s : State}
    (hprepared : s.prepared = true) (hch : ch = 1#2 ∨ ch = 2#2) (hn : n.toNat ≤ maxFrames)
    (hm : evts.length ≤ maxEvents) (hevts : EventsLegal n evts) :
    exec (.renderBlock ch n evts) s = .next (scheduleBlock ch n evts s) := by
  have hcheck : renderCheck maxFrames maxEvents s.prepared ch n evts = none := by
    rw [hprepared, renderCheck_eq_checkEvents (channelsLegal_of_one_or_two hch) hn hm, checkEvents_eq_none_iff]
    exact ⟨hevts, by simp⟩
  show execRenderBlock ch n evts s = _
  rw [execRenderBlock, hcheck]

theorem eventsLegal_nil (n : Word) : EventsLegal n [] := ⟨by simp, List.Pairwise.nil⟩

/-- A block without frames and events begins and ends. -/
theorem scheduleBlock_empty (ch : BitVec 2) {s : State} (hrender : s.render = none) :
    scheduleBlock ch 0#32 [] s = s := by
  show s.setRender none = s
  rw [← hrender]
  rfl

/-- Settles O16: the empty block passes the checks, and no offset lies below 0 frames. -/
theorem emptyBlockDoesNothing : Obligations.EmptyBlockDoesNothing := by
  unfold Obligations.EmptyBlockDoesNothing
  refine ⟨fun ch s hprepared hch hrender => ?empty, fun e es => ?offset⟩
  case empty =>
    rw [exec_renderBlock_of_legal hprepared hch (Nat.zero_le _) (Nat.zero_le _) (eventsLegal_nil _),
      scheduleBlock_empty ch hrender]
  case offset =>
    have hofs : ¬ e.ofs < 0#32 := BitVec.not_lt_zero
    rw [checkEvents_cons, eventCause_eq_evtOffset_iff.mpr hofs]
    rfl

end Sys2Proof.Machine
end

section
/-! PROOFS. The port (spec/46_host.md R250, spec/70_reset_and_hazards.md R300): a step outside a transaction runs the
one that stands whole at the port (O39) or waits, and a running block takes nothing from it (O41). -/

namespace Sys2Proof.Machine

section
variable {s : State} (hrender : s.render = none)
include hrender

theorem fetch_of_decoded {i : Instr} {rest : List Word} (hdecode : decodeTransaction s.port = .ok (i, rest)) :
    fetch s = .command i (s.setPort rest) := by
  rw [fetch, hrender]
  simp only [fetchTransaction, hdecode]

theorem fetch_of_incomplete {e : DecodeError} (hdecode : decodeTransaction s.port = .error e) : fetch s = .wait := by
  rw [fetch, hrender]
  simp only [fetchTransaction, hdecode]

end

/-- Settles O39: the step fetches the decoded transaction with its words consumed. -/
theorem idleStepRunsTheDecodedTransaction : Obligations.IdleStepRunsTheDecodedTransaction := by
  unfold Obligations.IdleStepRunsTheDecodedTransaction
  intro s i rest hrender hdecode
  rw [step, fetch_of_decoded hrender hdecode]
  rfl

/-- No instruction touches the port. -/
theorem ExecEffect.port_eq {i : Instr} {s t : State} (h : ExecEffect s i t) : t.port = s.port := by
  cases h with
  | schedule ch n evts => exact (scheduleBlock_keeps ch n evts s).port
  | noteOn _ note vel => exact (voiceNoteOn_keeps note vel s).port
  | noteOff _ note | noteOnV0 _ note => exact (voiceNoteOff_keeps note s).port
  | prepare | configure | renderFault | reserved | ignored => rfl

/-- Inside a RENDER_BLOCK no unit of work touches the port. -/
theorem StepEffect.port_eq_of_running {s t : State} {r : Render} (h : StepEffect s t) (hrender : s.render = some r) :
    t.port = s.port := by
  cases h with
  | command hfetch =>
    rw [fetch, hrender] at hfetch
    exact absurd hfetch (fetchRender_ne_command r _ _)
  | event _ heffect => exact heffect.port_eq
  | span => exact (advanceTo_keeps _ s).port
  | wait | finish => rfl

/-- Settles O41: an incomplete transaction is waited for, and a running block's own work leaves the port. -/
theorem portWaitsItsTurn : Obligations.PortWaitsItsTurn := by
  unfold Obligations.PortWaitsItsTurn
  refine ⟨fun s e hrender hdecode => ?wait, fun s t r hrender hstep => ?running⟩
  case wait => rw [step, fetch_of_incomplete hrender hdecode]
  case running => exact (step_effect hstep).port_eq_of_running hrender

end Sys2Proof.Machine
end

section
/-! PROOFS. What a completed RENDER_BLOCK leaves: guarded words in every frame and every other byte as before, whatever
its events (spec/46_host.md R253, spec/45_guard.md R245; O17), and without events the voice's guarded samples (O59). -/

namespace Sys2Proof.Machine

/-! ### A span -/

/-- A span leaves guarded words (45_guard R245) and keeps the guarded words of the frames before it. -/
theorem sampleSafe_renderSpan {channels start len c f : Nat} (hlen : start + len ≤ 2 ^ 32) (hc : c < channels)
    (hf : f < start + len) {s : State} (hwf : s.out.wf = true) (h : f < start → sampleSafe (s.memRead c f) = true) :
    sampleSafe ((renderSpan channels start len s).memRead c f) = true := by
  by_cases hbefore : f < start
  · rw [(renderSpan_out channels start len s).memRead_eq hwf fun _ => outsideSpan_of_word hlen hbefore]
    exact h hbefore
  · obtain ⟨t, ht, -, hslice⟩ := renderSpan_memRead_eq_guardSlice hlen hc hwf
    obtain ⟨hsafe, -⟩ := guardLeavesTheSliceSafe c start len t ht
    rw [hslice f (by omega)]
    exact hsafe f (by omega) hf

/-! ### The words of the rendered frames -/

/-- The buffer is canonical, and every word of the frames rendered so far is guarded. -/
structure RenderedSafe (s : State) : Prop where
  wf : s.out.wf = true
  safe : ∀ c f, s.rendered c f → sampleSafe (s.memRead c f) = true

/-- Advancing the cursor makes the words of the new frames guarded too. -/
theorem RenderedSafe.sampleSafe_advanceTo {s : State} (h : RenderedSafe s) (upTo : Word) {c f : Nat}
    (hc : c < s.channelCount) (hf : f < max s.cursor.toNat upTo.toNat) :
    sampleSafe ((advanceTo upTo s).memRead c f) = true := by
  have hupTo : upTo.toNat < 2 ^ 32 := upTo.isLt
  unfold advanceTo
  split
  next hlt =>
    rw [BitVec.lt_def] at hlt
    exact sampleSafe_renderSpan (by omega) hc (by omega) h.wf fun hbefore => h.safe c f ⟨hc, hbefore⟩
  next hge =>
    rw [BitVec.lt_def] at hge
    exact h.safe c f ⟨hc, by omega⟩

theorem RenderedSafe.scheduleEvent {s : State} (h : RenderedSafe s) (e : EventRecord) :
    RenderedSafe (scheduleEvent s e) where
  wf := wf_scheduleEvent e h.wf
  safe c f := by
    rintro ⟨hc, hf⟩
    rw [scheduleEvent_channelCount] at hc
    rw [scheduleEvent_cursor] at hf
    have hread : (Machine.scheduleEvent s e).memRead c f = (advanceTo e.ofs s).memRead c f :=
      congrArg (Memory.readWord · (outAddr c f)) (applyEvent_out e _)
    rw [hread]
    exact h.sampleSafe_advanceTo e.ofs hc (hf.trans_le (advanceTo_cursor_le e.ofs s))

theorem RenderedSafe.scheduleEvents {s : State} (h : RenderedSafe s) (evts : List EventRecord) :
    RenderedSafe (evts.foldl Machine.scheduleEvent s) := by
  induction evts generalizing s with
  | nil => exact h
  | cons e evts ih => exact ih (h.scheduleEvent e)

/-- A block leaves guarded words only (45_guard R245). -/
theorem sampleSafe_scheduleBlock (ch : BitVec 2) (n : Word) (evts : List EventRecord) {s : State}
    (hwf : s.out.wf = true) {c f : Nat} (hc : c < ch.toNat) (hf : f < n.toNat) :
    sampleSafe ((scheduleBlock ch n evts s).memRead c f) = true := by
  have hbegin : RenderedSafe (s.beginRender ch n evts) := ⟨hwf, fun _ _ ⟨_, hf⟩ => absurd hf (Nat.not_lt_zero _)⟩
  refine (hbegin.scheduleEvents evts).sampleSafe_advanceTo n ?_ (hf.trans_le (Nat.le_max_right ..))
  rw [scheduleEvents_channelCount]
  exact hc

/-! ### The bytes outside the block -/

/-- A span up to a frame of the block touches no byte outside the block. -/
theorem advanceTo_out {frames : Nat} {upTo : Word} (hle : upTo.toNat ≤ frames) (s : State) :
    OutKeeps (outsideBlock s.channelCount frames) s (advanceTo upTo s) := by
  unfold advanceTo
  split
  next hlt =>
    rw [BitVec.lt_def] at hlt
    exact (renderSpan_out _ _ _ s).mono fun a ha c f hc _ hf => ha c f hc (by omega)
  next => exact .of_out_eq rfl

theorem scheduleEvents_out {frames : Nat} {evts : List EventRecord} (hevts : ∀ e ∈ evts, e.ofs.toNat ≤ frames)
    (s : State) : OutKeeps (outsideBlock s.channelCount frames) s (evts.foldl scheduleEvent s) := by
  induction evts generalizing s with
  | nil => exact .of_out_eq rfl
  | cons e evts ih =>
    obtain ⟨he, hrest⟩ := List.forall_mem_cons.mp hevts
    have hevent : OutKeeps (outsideBlock s.channelCount frames) s (scheduleEvent s e) :=
      (advanceTo_out he s).trans (.of_out_eq (applyEvent_out e _))
    have hevents := ih hrest (scheduleEvent s e)
    rw [scheduleEvent_channelCount] at hevents
    exact hevent.trans hevents

/-- A block touches its own words only (20_memory R71). -/
theorem scheduleBlock_out (ch : BitVec 2) {n : Word} {evts : List EventRecord} (hevts : EventsLegal n evts)
    (s : State) : OutKeeps (outsideBlock ch.toNat n.toNat) s (scheduleBlock ch n evts s) := by
  obtain ⟨hofs, -⟩ := hevts
  have hevents := scheduleEvents_out (fun e he => (BitVec.lt_def.mp (hofs e he)).le) (s.beginRender ch n evts)
  have hlast := advanceTo_out (Nat.le_refl n.toNat) (evts.foldl scheduleEvent (s.beginRender ch n evts))
  rw [scheduleEvents_channelCount] at hlast
  exact hevents.trans hlast

/-- Settles O17: the accepted block keeps the registers it may not write, guards each of its words, and touches
no other. -/
theorem renderBlockLeavesGuardedWords : Obligations.RenderBlockLeavesGuardedWords := by
  unfold Obligations.RenderBlockLeavesGuardedWords
  intro ch n evts s hprepared hch hn hm hevts hwf
  obtain ⟨hrate, henv, hattack, hrelease, hprep, hfault, hport⟩ := scheduleBlock_keeps ch n evts s
  obtain ⟨-, hframe⟩ := scheduleBlock_out ch hevts s hwf
  exact ⟨scheduleBlock ch n evts s, exec_renderBlock_of_legal hprepared hch hn hm hevts,
    scheduleBlock_render ch n evts s, hrate, henv, hattack, hrelease, hprep, hfault, hport,
    fun _ _ hc hf => sampleSafe_scheduleBlock ch n evts hwf hc hf, hframe⟩

/-! ### A block without events -/

theorem voiceAfter_setRender (j : Nat) (s : State) (r : Option Render) :
    voiceAfter j (s.setRender r) = (voiceAfter j s).setRender r := by
  induction j generalizing s with
  | zero => rfl
  | succ j ih => rw [voiceAfter_succ, voiceAfter_succ, renderOneSample_setRender, ih]

/-- The samples do not depend on the transaction-local state (42_voice R186). -/
theorem sampleAt_setRender (j : Nat) (s : State) (r : Option Render) : sampleAt j (s.setRender r) = sampleAt j s := by
  rw [sampleAt, sampleAt, voiceAfter_setRender, renderOneSample_setRender]

theorem State.setRender_keeps (s : State) (r : Option Render) : SpanKeeps s (s.setRender r) :=
  ⟨⟨rfl, rfl, rfl, rfl, rfl, rfl, rfl⟩, rfl, rfl, rfl, rfl, rfl⟩

/-- What a span may write is all in which the states around it differ (10_state R50). -/
theorem SpanKeeps.eq_record {s t : State} (h : SpanKeeps s t) :
    t = { s with phase := t.phase, level := t.level, guardDiag := t.guardDiag, out := t.out, render := t.render } := by
  obtain ⟨⟨hrate, henv, hattack, hrelease, hprepared, hfault, hport⟩, hinc, hslope, hactive, hfreq, hpeak⟩ := h
  rw [← hrate, ← henv, ← hattack, ← hrelease, ← hprepared, ← hfault, ← hport, ← hinc, ← hslope, ← hactive, ← hfreq,
    ← hpeak]

/-- A block without events keeps the registers a note sets (10_state R50). -/
theorem scheduleBlock_no_events_keeps (ch : BitVec 2) (n : Word) (s : State) :
    SpanKeeps s (scheduleBlock ch n [] s) := by
  rw [scheduleBlock_no_events]
  exact ((State.setRender_keeps s _).trans (renderSpan_keeps _ _ _ _)).trans (State.setRender_keeps _ none)

/-- A block without events takes one sample of the voice per frame (44_renderer R231). -/
theorem scheduleBlock_no_events_phase_level (ch : BitVec 2) (n : Word) (s : State) :
    (scheduleBlock ch n [] s).phase = (voiceAfter n.toNat s).phase ∧
    (scheduleBlock ch n [] s).level = (voiceAfter n.toNat s).level := by
  have hspan := renderSpan_phase_level ch.toNat 0 n.toNat (s.beginRender ch n [])
  rw [State.beginRender, voiceAfter_setRender] at hspan
  rw [scheduleBlock_no_events]
  exact hspan

/-- The words of a block without events whose samples are all in the guard's range (45_guard R244). -/
theorem scheduleBlock_no_events_memRead {ch : BitVec 2} {n : Word} {s : State} (hwf : s.out.wf = true)
    (hrange : ∀ j, j < n.toNat → inGuardRange (sampleAt j s) = true) {c j : Nat} (hc : c < ch.toNat)
    (hj : j < n.toNat) : (scheduleBlock ch n [] s).memRead c j = guardedSample (sampleAt j s) := by
  have hsample (i : Nat) : sampleAt i (s.beginRender ch n []) = sampleAt i s := sampleAt_setRender i s _
  have hword := renderSpan_memRead_of_inRange (start := 0) (len := n.toNat) (by omega) hc
    (s := s.beginRender ch n []) hwf (by simpa only [hsample] using hrange) hj
  rw [Nat.zero_add, hsample] at hword
  rw [scheduleBlock_no_events]
  exact hword

/-- Settles O59: the block is one span, in which every sample is in the guard's range. -/
theorem renderBlockWritesTheVoicesSamples : Obligations.RenderBlockWritesTheVoicesSamples := by
  unfold Obligations.RenderBlockWritesTheVoicesSamples
  intro ch n s hprepared hch hn hwf hrange
  obtain ⟨hphase, hlevel⟩ := scheduleBlock_no_events_phase_level ch n s
  have hblock := (scheduleBlock_no_events_keeps ch n s).eq_record
  rw [hphase, hlevel, scheduleBlock_render] at hblock
  exact ⟨(scheduleBlock ch n [] s).out, (scheduleBlock ch n [] s).guardDiag,
    (exec_renderBlock_of_legal hprepared hch hn (Nat.zero_le _) (eventsLegal_nil n)).trans (congrArg _ hblock),
    fun _ _ hc hj => scheduleBlock_no_events_memRead hwf hrange hc hj⟩

end Sys2Proof.Machine
end

section
/-! PROOFS. Faults and reset (spec/60_exceptions.md R270, R272, R276, spec/70_reset_and_hazards.md R300): every field of
`FAULT` after a cause is recorded, that a fault changes nothing else and stops nothing, and the state after power-on. -/

namespace Sys2Proof.Machine

/-! ### The fields of `FAULT` after a cause is recorded -/

/-- FIRST is wide enough for every cause code. -/
theorem Cause.toNat_ofNat_code (k : Cause) : (BitVec.ofNat 4 k.code).toNat = k.code := by
  have hle := code_le_seven k
  rw [BitVec.toNat_ofNat]
  omega

/-- A mask of one STICKY bit has no other bit. -/
theorem stickyBit_getLsbD_of_ne (k : Cause) {j : Nat} (hne : j ≠ k.code) : (1#16 <<< k.code).getLsbD j = false := by
  rw [← BitVec.twoPow_eq, BitVec.getLsbD_twoPow]
  simp [hne.symm]

/-- A code that is written to FIRST touches no bit below FIRST. -/
theorem firstCode_getLsbD_of_lt (k : Cause) {j : Nat} (hj : j < 8) :
    (BitVec.ofNat 16 k.code <<< 8).getLsbD j = false := by
  simp [BitVec.getLsbD_shiftLeft, hj]

/-- Recording a cause touches no other bit below FIRST (60_exceptions R272). -/
theorem faultSticky_recordFault_of_ne (k : Cause) (f : BitVec 16) {j : Nat} (hj : j < 8) (hne : j ≠ k.code) :
    faultSticky (recordFault k f) j = faultSticky f j := by
  have hsticky := stickyBit_getLsbD_of_ne k hne
  have hcode := firstCode_getLsbD_of_lt k hj
  unfold faultSticky
  rw [recordFault_eq]
  split <;> simp only [BitVec.getLsbD_or, hsticky, hcode, Bool.or_false]

/-- The bits [15:12] are among the reserved bits of the record (10_state R45). -/
theorem extractLsb'_reserved (f : BitVec 16) : (f &&& 0xF001#16).extractLsb' 12 4 = f.extractLsb' 12 4 := by
  have hmask : (0xF001#16).extractLsb' 12 4 = BitVec.allOnes 4 := by decide
  rw [BitVec.extractLsb'_and, hmask, BitVec.and_allOnes]

theorem recordFault_extractLsb'_reserved (k : Cause) (f : BitVec 16) :
    (recordFault k f).extractLsb' 12 4 = f.extractLsb' 12 4 := by
  rw [← extractLsb'_reserved, recordFault_reserved, extractLsb'_reserved]

/-- Settles O12: the two masks that recording a cause adds meet only its STICKY bit and an empty FIRST. -/
theorem faultRecordKeepsTheFirstCause : Obligations.FaultRecordKeepsTheFirstCause := by
  unfold Obligations.FaultRecordKeepsTheFirstCause
  refine ⟨⟨rfl, rfl, rfl, rfl, rfl, rfl, rfl⟩, fun k f => ?_⟩
  have hfirst : (faultFirst (recordFault k f)).toNat = if faultFirst f = 0#4 then k.code else (faultFirst f).toNat := by
    rw [faultFirst_recordFault, apply_ite BitVec.toNat, k.toNat_ofNat_code]
  exact ⟨faultSticky_recordFault_code k f, fun _ hj hne => faultSticky_recordFault_of_ne k f hj hne, hfirst,
    recordFault_extractLsb'_reserved k f⟩

/-! ### What a fault does to the block -/

/-- Settles O42: every effect of an instruction, a fault's among them, is a next state. -/
theorem noInstructionStopsTheBlock : Obligations.NoInstructionStopsTheBlock := by
  unfold Obligations.NoInstructionStopsTheBlock
  intro i s
  obtain ⟨t, hexec, -⟩ := exists_exec_effect i s
  exact ⟨t, hexec⟩

/-- Settles O13: with a failing check only the fault branch of RENDER_BLOCK is left. -/
theorem renderFaultRecordsItsCauseOnly : Obligations.RenderFaultRecordsItsCauseOnly := by
  unfold Obligations.RenderFaultRecordsItsCauseOnly
  intro ch n evts s k hcheck
  obtain ⟨k', hcheck', hexec⟩ | ⟨hpass, -⟩ := execRenderBlock_cases ch n evts s
  · obtain rfl : k' = k := Option.some.inj (hcheck'.symm.trans hcheck)
    rw [← raiseFault_spec]
    exact hexec
  · cases hpass.symm.trans hcheck

/-! ### The state after power-on -/

/-- No word of a transaction stands at the port after power-on, and the block waits (70_reset R300). -/
theorem step_reset : step State.reset = .next State.reset := by
  have hdecode : decodeTransaction State.reset.port = .error .noWord := rfl
  rw [step, fetch_of_incomplete rfl hdecode]

/-- Settles O44: the registers are read off the definition of the reset state, which has no word at its port. -/
theorem resetHoldsThePowerOnValues : Obligations.ResetHoldsThePowerOnValues := by
  unfold Obligations.ResetHoldsThePowerOnValues
  exact ⟨rfl, rfl, rfl, rfl, rfl, rfl, rfl, rfl, rfl, rfl, rfl, rfl, rfl, rfl, rfl, step_reset⟩

/-- An empty record is legal (10_state R45). -/
theorem faultRecordLegal_zero : faultRecordLegal 0#16 = true := by decide

/-- Empty diagnostics are legal (10_state R46). -/
theorem diagLegal_zero : diagLegal 0#32 = true := by decide

/-- +0.0 is a legal `LEVEL` (10_state R49 (a)). -/
theorem levelLegal_posZero : levelLegal posZero = true := by decide

/-- Settles O45: the buffer lists no byte, `FAULT`, `GUARD_DIAG` and `LEVEL` are 0, and no transaction runs. -/
theorem resetSatisfiesTheInvariants : Obligations.ResetSatisfiesTheInvariants := by
  unfold Obligations.ResetSatisfiesTheInvariants
  exact ⟨rfl, faultRecordLegal_zero, diagLegal_zero, levelLegal_posZero, runLegal_of_render_none rfl⟩

end Sys2Proof.Machine
end
